-- ==== Sys2Proof/Word.lean ====
section
/-! DEFINITION. The words of the JD2248: what the manual treats as bits. -/

namespace Sys2Proof

/-- A word of the management window (10 R168). -/
abbrev Word := BitVec 32

/-- A data byte of a request or a response. -/
abbrev Byte := BitVec 8

/-- A 28-bit address, initiator or target-local (00_scope "Address spaces"). -/
abbrev Addr := BitVec 28

end Sys2Proof
end

