-- ==== Sys2Proof/Syntax.lean ====
section
/-! DEFINITION. The commands of the block: one constructor for each row of spec/opcode_table.json. -/

namespace Sys2Proof

/-- Direction of a request (04 R66). -/
inductive Dir where
  | read
  | write
  deriving DecidableEq, Repr

/-- A tick source (08 R145). -/
inductive TickSel where
  | t100u
  | t1m
  | t10m
  | t100m
  deriving DecidableEq, Repr

/-- Code of a target's response (05 R86). -/
inductive TargetCode where
  | ok
  | error
  deriving DecidableEq, Repr

/-- A request on an initiator's request channel (04 R66). -/
structure Request where
  tag  : Fin 16
  dir  : Dir
  addr : Addr
  len  : Nat
  data : List Byte
  deriving DecidableEq, Repr

/-- A command to the block. The sixteen management commands are writes of their code to COMMAND; their parameters
are the PARAM words of the window (10 R169), so they carry no operand (log entry 8). -/
inductive Instr where
  /-- RESET_N is deasserted with DEFSEL[2:0] at `defsel` (01 R25, R9). -/
  | powerOnReset (defsel : BitVec 3)
  /-- IRST_N[i] is asserted (04 R79). -/
  | irstNAssert (i : Fin 4)
  /-- IRST_N[i] is deasserted (04 R81). -/
  | irstNDeassert (i : Fin 4)
  /-- Initiator i presents a request (04 R69). -/
  | acceptRequest (i : Fin 4) (r : Request)
  /-- Port i resolves the head of its resolution queue anew (04 R77). -/
  | reResolution (i : Fin 4)
  /-- Initiator i takes the head of the answer list (04 R76). -/
  | responseTaken (i : Fin 4)
  /-- The arbiter of target port t grants (05 R89). -/
  | arbiterGrant (t : Fin 4)
  /-- Target t takes the presented request (05 R85). -/
  | targetRequestTaken (t : Fin 4)
  /-- Target t answers (05 R86). -/
  | targetResponse (t : Fin 4) (num : BitVec 4) (code : TargetCode) (data : List Byte)
  /-- The response timer of port t reaches zero (05 R93). -/
  | responseTimerExpiry (t : Fin 4)
  /-- The 16 microsecond interval of port t's restore ends (05 R99). -/
  | restoreEnd (t : Fin 4)
  /-- The engine begins the line at the cursor, or a retry (07 R125). -/
  | lineBegin
  /-- The head job becomes active (06 R109). -/
  | jobActivate
  /-- The active job's start checks pass and it starts (06 R110). -/
  | jobStart
  /-- The budget timer expires (07 R131). -/
  | budgetExpiry
  /-- A tick source expires (08 R145). -/
  | tick (src : TickSel)
  /-- A tick reaches monitor m at count 1 (08 R149). -/
  | goIdle (m : Fin 16)
  | stage
  | activate
  | modify
  | retire
  | readDescriptor
  | probe
  | queueMigration
  | cancelJob
  | queryJob
  | haltEngine
  | resumeEngine
  | setMonitor
  | stopMonitor
  | readMonitor
  | restoreTarget
  | restart
  /-- A COMMAND write of a word whose code is not assigned (10 R173). -/
  | unknownCommand (v : Word)
  /-- A COMMAND write while CMD_BUSY is 1 (10 R171). -/
  | commandOverrun (v : Word)
  | statusWrite (v : Word)
  /-- A write of EVENT_PENDING0 or EVENT_PENDING1 (09 R160). -/
  | eventPendingWrite (k : Fin 2) (v : Word)
  /-- A write of EVENT_ROUTE0 to EVENT_ROUTE3 (09 R162). -/
  | eventRouteWrite (j : Fin 4) (v : Word)
  | budgetWrite (v : Word)
  | retryWrite (v : Word)
  | tgtTimeoutWrite (v : Word)
  /-- A write at word offset `off` of the window (10 R168; 6 bits of word offset, 10.6). -/
  | registerWrite (off : BitVec 6) (v : Word)
  /-- RESET_N is asserted (09 R165). -/
  | resetNAssertion
  deriving DecidableEq, Repr

end Sys2Proof
end

