-- ==== Sys2Proof/Config.lean ====
section
/-! DEFINITION. What the manual leaves open and the model leaves free. -/

namespace Sys2Proof

/-- FREE VALUE (log entry 6). The spec fixes no order among events that come together, as those of several monitors at
one tick do (08 R145, R147, and the remark after example 8.9). On the `draw`-th occasion `item` has this rank. It has
no body, so a claim holds whatever the order is. -/
opaque Config.freeRank : (draw : Nat) → (item : Nat) → Nat

end Sys2Proof
end

