-- ==== Sys2Proof/Machine/State.lean ====
section
/-! DEFINITION. The state of the JD2248, as plain data, and its value after power-on reset. -/

namespace Sys2Proof.Machine

/-! ## The Region Map (chapter 1) -/

/-- Index of a descriptor record, 0 to 64 (R1). -/
abbrev DescIdx := Fin 65

/-- A target window: a target number and a target-local base (R1). -/
structure Window where
  target : Fin 4
  base   : Addr
  deriving DecidableEq, Repr

/-- A read route (R3). -/
inductive ReadRoute where
  | fault
  | window (w : Window)
  deriving DecidableEq, Repr

/-- A write route (R3). -/
inductive WriteRoute where
  | fault
  | discard
  | window (w : Window)
  deriving DecidableEq, Repr

/-- A permission of one initiator (R5). -/
inductive Perm where
  | none
  | read
  | readWrite
  deriving DecidableEq, Repr

/-- Descriptor states (R11). -/
inductive DescState where
  | free
  | staged
  | live
  | migrating
  | draining
  deriving DecidableEq, Repr

/-- Reasons of a FAILED outcome (R7). -/
inductive FailReason where
  | state
  | route
  | overlap
  | range
  | line
  | mirror
  deriving DecidableEq, Repr

/-- Reasons of an ABORTED outcome (R7). -/
inductive AbortReason where
  | cancelled
  | retired
  | withdrawn
  | restart
  deriving DecidableEq, Repr

/-- The last outcome of a descriptor (R7). -/
inductive LastOutcome where
  | none
  | done
  | failed (reason : FailReason) (line : Nat)
  | aborted (reason : AbortReason)
  deriving DecidableEq, Repr

/-- A descriptor record (R1). The mirror route is absent or a window (R4). -/
structure Desc where
  state     : DescState
  switching : Bool
  base      : Addr
  size      : Nat
  read      : ReadRoute
  write     : WriteRoute
  mirror    : Option Window
  perms     : Vector Perm 4
  gen       : BitVec 8
  cur       : Nat
  prev      : Nat
  outcome   : LastOutcome
  deriving DecidableEq, Repr

/-- The values of an ordinary descriptor after power-on reset (R8). -/
def Desc.powerOn : Desc where
  state := .free
  switching := false
  base := 0
  size := 12
  read := .fault
  write := .fault
  mirror := none
  perms := Vector.replicate 4 .none
  gen := 0
  cur := 0
  prev := 0
  outcome := .none

/-- The floor after power-on reset, by DEFSEL[2:0] (R9, R25). -/
def Desc.floorPowerOn (defsel : BitVec 3) : Desc :=
  let x : Desc := { Desc.powerOn with state := .live, size := 28, perms := Vector.replicate 4 .readWrite }
  if h : defsel.toNat < 4 then
    { x with read := .window ⟨⟨defsel.toNat, h⟩, 0⟩, write := .window ⟨⟨defsel.toNat, h⟩, 0⟩ }
  else x

/-! ## Initiator Ports (chapter 4) -/

/-- Role of a leg (R71). -/
inductive LegRole where
  | read
  | write
  | mirror
  | destination
  deriving DecidableEq, Repr

/-- Status of a leg (R71). -/
inductive LegStatus where
  | ungranted
  | granted
  | ok
  | error
  deriving DecidableEq, Repr

/-- One leg of a transaction (R37, R71). -/
structure Leg where
  role   : LegRole
  target : Fin 4
  addr   : Addr
  status : LegStatus
  deriving DecidableEq, Repr

/-- A hold: its kind, the winner, and for LINE the line offset (R71). -/
inductive Hold where
  | switch (winner : DescIdx)
  | line (winner : DescIdx) (line : Nat)
  deriving DecidableEq, Repr

/-- What a transaction is counted on: winner, counted generation and line offset (R71). -/
structure Counted where
  index : DescIdx
  gen   : BitVec 8
  line  : Nat
  deriving DecidableEq, Repr

/-- Response codes (R66). -/
inductive RespCode where
  | done
  | decodeErr
  | targetErr
  deriving DecidableEq, Repr

/-- Slot states (R71). -/
inductive SlotState where
  | free
  | held
  | waiting
  | issued
  | orphaned
  deriving DecidableEq, Repr

/-- A slot record (R71). A FREE slot is `Slot.blank`: its other fields are absent in the spec. -/
structure Slot where
  state    : SlotState
  pos      : Nat
  tag      : Fin 16
  dir      : Dir
  addr     : Addr
  len      : Nat
  data     : List Byte
  hold     : Option Hold
  released : Bool
  counted  : Option Counted
  legs     : List Leg
  readData : Option (List Byte)
  response : Option RespCode
  deriving DecidableEq, Repr

/-- A FREE slot (R71, R82). -/
def Slot.blank : Slot where
  state := .free
  pos := 0
  tag := 0
  dir := .read
  addr := 0
  len := 0
  data := []
  hold := none
  released := false
  counted := none
  legs := []
  readData := none
  response := none

/-- A leg in a leg queue: its slot and its role there (R73). -/
structure LegRef where
  slot : Fin 8
  role : LegRole
  deriving DecidableEq, Repr

/-- An entry of the answer list: a slot's response, or the one in the collision place (R76). -/
inductive Answer where
  | slot (k : Fin 8)
  | collision
  deriving DecidableEq, Repr

/-- Port states of an Initiator Port (R67). -/
inductive PortState where
  | active
  | resetting
  deriving DecidableEq, Repr

/-- An Initiator Port (chapter 4 head, R71, R73, R76, R77). `irst` is whether IRST_N[i] is asserted. -/
structure IPort where
  state     : PortState
  irst      : Bool
  slots     : Vector Slot 8
  nextPos   : Nat
  legQueues : Vector (List LegRef) 4
  answers   : List Answer
  collision : Option (Fin 16)
  resQueue  : List (Fin 8)
  deriving DecidableEq, Repr

/-- An Initiator Port after power-on reset with IRST_N[i] at `irst` (R82). -/
def IPort.powerOn (irst : Bool) : IPort where
  state := if irst then .resetting else .active
  irst := irst
  slots := Vector.replicate 8 Slot.blank
  nextPos := 0
  legQueues := Vector.replicate 4 []
  answers := []
  collision := none
  resQueue := []

/-! ## Target Ports (chapter 5) -/

/-- Port states of a Target Port (R83). -/
inductive TPortState where
  | online
  | offline
  deriving DecidableEq, Repr

/-- The five requesters of an arbiter (R88). -/
inductive Requester where
  | ip (i : Fin 4)
  | meng
  deriving DecidableEq, Repr

/-- The owner of an outstanding request (R83). -/
inductive Owner where
  | leg (port : Fin 4) (slot : Fin 8) (role : LegRole)
  | meng
  deriving DecidableEq, Repr

/-- What the target sees of a request, less its number (R85). -/
structure ReqBody where
  dir  : Dir
  addr : Addr
  len  : Nat
  data : List Byte
  deriving DecidableEq, Repr

/-- An entry of the request queue (R83). `taken` is whether the target has taken it from the channel (R85). -/
structure TReq where
  body  : ReqBody
  num   : BitVec 4
  owner : Owner
  taken : Bool
  deriving DecidableEq, Repr

/-- A Target Port (R83). `restoring` holds the microseconds left of the restore interval (R98); `timer` those left
of a running response timer (R92). -/
structure TPort where
  state       : TPortState
  restoring   : Option Nat
  queue       : List TReq
  nextNum     : BitVec 4
  timer       : Option Nat
  lastGranted : Requester
  deriving DecidableEq, Repr

/-- A Target Port after power-on reset (R83). -/
def TPort.powerOn : TPort where
  state := .online
  restoring := none
  queue := []
  nextNum := 0
  timer := none
  lastGranted := .meng

/-! ## The Migration Engine (chapters 6 and 7) -/

/-- Modes of a job (R102). -/
inductive Mode where
  | move
  | shadow
  deriving DecidableEq, Repr

/-- Origins of a job (R102). -/
inductive Origin where
  | software
  | monitorIdle (m : Fin 16)
  | monitorWake (m : Fin 16)
  deriving DecidableEq, Repr

/-- A migration job (R102). -/
structure Job where
  id     : BitVec 8
  desc   : Fin 64
  dest   : Window
  mode   : Mode
  origin : Origin
  deriving DecidableEq, Repr

/-- Engine states (R108). -/
inductive EngState where
  | idle
  | starting
  | copying
  | cutover
  | aborting
  | halted
  deriving DecidableEq, Repr

/-- Line steps (R121). -/
inductive LineStep where
  | sourceRead
  | destWrite
  | retryWait
  deriving DecidableEq, Repr

/-- The Migration Engine's record (R108) with its copy state (R121). -/
structure Engine where
  state        : EngState
  queue        : List Job
  active       : Option Job
  started      : Bool
  haltPending  : Bool
  nextJobId    : BitVec 8
  outstanding  : Nat
  cursor       : Nat
  lineInFlight : Option Nat
  lineStep     : Option LineStep
  retryCount   : Nat
  lineData     : Option (List Byte)
  credits      : Nat
  budgetTimer  : Nat
  deriving DecidableEq, Repr

/-- The engine after power-on reset (R108, R119, R121). -/
def Engine.powerOn : Engine where
  state := .idle
  queue := []
  active := none
  started := false
  haltPending := false
  nextJobId := 0
  outstanding := 0
  cursor := 0
  lineInFlight := none
  lineStep := none
  retryCount := 0
  lineData := none
  credits := 0
  budgetTimer := 16

/-! ## Activity Monitors (chapter 8) -/

/-- Monitor states (R143). -/
inductive MonState where
  | off
  | counting
  | idle
  deriving DecidableEq, Repr

/-- Access filters (R147). -/
inductive Filter where
  | reads
  | writes
  | both
  deriving DecidableEq, Repr

/-- An idle or wake template (R143). -/
structure Template where
  dest : Window
  mode : Mode
  deriving DecidableEq, Repr

/-- A request of a monitor on its way to the engine: the enqueue of the idle or the wake template, or the withdrawal of
a job (R149, R150). -/
inductive Ask where
  | idle
  | withdraw (id : BitVec 8)
  | wake
  deriving DecidableEq, Repr

/-- A monitor record (R143). `ask` is the request the monitor has made and the engine has not yet taken (R107, R149,
R150; log entry 27). -/
structure Monitor where
  state   : MonState
  subject : Fin 64
  reload  : Nat
  count   : Nat
  tickSel : TickSel
  filter  : Filter
  idleT   : Option Template
  wakeT   : Option Template
  idleJob : Option (BitVec 8)
  ask     : Option Ask
  deriving DecidableEq, Repr

/-- The cleared values of a monitor (R143). -/
def Monitor.cleared : Monitor where
  state := .off
  subject := 0
  reload := 1
  count := 0
  tickSel := .t100u
  filter := .both
  idleT := none
  wakeT := none
  idleJob := none
  ask := none

/-- An event on its way to a monitor: a tick of a source, or an access notification (R145, R147). -/
inductive Arrival where
  | tick (m : Fin 16) (src : TickSel)
  | access (m : Fin 16) (d : DescIdx) (dir : Dir)
  deriving DecidableEq, Repr

/-! ## The Event Controller (chapter 9) -/

/-- The 51 event classes (R158). -/
inductive EventClass where
  | decode (i : Fin 4)
  | target (t : Fin 4)
  | offline (t : Fin 4)
  | jobDone
  | jobFailed
  | jobAborted
  | queueRefused
  | switched
  | retired
  | cmdDone
  | idle (m : Fin 16)
  | wake (m : Fin 16)
  deriving DecidableEq, Repr

/-- Routes of a class (R162). -/
inductive Route where
  | off
  | irq
  | alert
  deriving DecidableEq, Repr

/-- The Event Controller: a pending flag and a route for each class, in the numbering of R178. -/
structure EventCtl where
  pending : Vector Bool 51
  route   : Vector Route 51
  deriving DecidableEq, Repr

/-- The Event Controller after power-on reset (R158, R165). -/
def EventCtl.powerOn : EventCtl where
  pending := Vector.replicate 51 false
  route := Vector.replicate 51 .off

/-! ## The Management Port (chapter 10) -/

/-- The Management Port's words and its own state (R168, R169, R171, R172). COMMAND holds the code last taken. -/
structure Mgmt where
  busy        : Bool
  overrun     : Bool
  lastReason  : BitVec 4
  lastCommand : BitVec 8
  command     : BitVec 8
  param       : Vector Word 6
  latched     : Vector Word 6
  result      : Vector Word 8
  budget      : Word
  retry       : Word
  tgtTimeout  : Word
  deriving DecidableEq, Repr

/-- The Management Port after power-on reset (R168, R179, R181). -/
def Mgmt.powerOn : Mgmt where
  busy := false
  overrun := false
  lastReason := 15
  lastCommand := 0
  command := 0
  param := Vector.replicate 6 0
  latched := Vector.replicate 6 0
  result := Vector.replicate 8 0
  budget := 0x10
  retry := 1
  tgtTimeout := 0

/-! ## The whole state -/

/-- The state of the part. `ticks` holds the microseconds left of each tick source's period, in the order T100U,
T1M, T10M, T100M (R145). `arrivals` holds the ticks and notifications that monitors have not yet taken (R145, R147; log
entry 27). `resetAsserted` is whether RESET_N is asserted (R100, R165). `freeDraws` (the model's own) counts the free
choices drawn from `Config.freeRank` (log entry 6). `pending` is the queue of waiting commands, first in first out. -/
structure State where
  map           : Vector Desc 65
  ports         : Vector IPort 4
  tports        : Vector TPort 4
  eng           : Engine
  mons          : Vector Monitor 16
  ticks         : Vector Nat 4
  arrivals      : List Arrival
  evc           : EventCtl
  mgmt          : Mgmt
  resetAsserted : Bool
  freeDraws     : Nat
  pending       : List Instr
  deriving DecidableEq, Repr

/-- A fault would stop the part. The spec gives no event that does, so there is no constructor: nothing raises one,
and no meaning ends in one. This is safe. -/
inductive Fault where
  deriving DecidableEq, Repr

/-- A refusal says that the model has no meaning for a command. -/
inductive Refusal where
  /-- Raised by `exec` alone, for a command without a meaning; no arm of `exec` raises it. It would be safe. -/
  | notModelled (mnemonic : String)
  deriving DecidableEq, Repr

/-- Every block at its power-on values, with DEFSEL[2:0] and the levels of IRST_N given and RESET_N deasserted
(R25, R63, R82, R101, R119, R142, R157, R165, R181). The tick sources start a whole period (R145). -/
def State.powerOn (defsel : BitVec 3) (irst : Vector Bool 4) : State where
  map := (Vector.replicate 65 Desc.powerOn).set 64 (Desc.floorPowerOn defsel)
  ports := ⟨⟨irst.toList.map IPort.powerOn⟩, by simp⟩
  tports := Vector.replicate 4 TPort.powerOn
  eng := Engine.powerOn
  mons := Vector.replicate 16 Monitor.cleared
  ticks := ⟨⟨[100, 1000, 10000, 100000]⟩, rfl⟩
  arrivals := []
  evc := EventCtl.powerOn
  mgmt := Mgmt.powerOn
  resetAsserted := false
  freeDraws := 0
  pending := []

/-- The part right after power-on reset. DESIGN CHOICE, log entry 7: the straps stand at 0 and no IRST_N[i] is
asserted; the model's own fields `freeDraws` and `pending` start at 0 and empty. -/
def State.reset : State := State.powerOn 0 (Vector.replicate 4 false)

end Sys2Proof.Machine
end

