-- ==== Sys2Proof/Machine/Ops.lean ====
section
/-! DEFINITION. The named operations over the state: reading and updating one record of one block. -/

namespace Sys2Proof.Machine

/-! ## Tables of records -/

/-- The record at index `i`. -/
def look {α : Type} {n : Nat} (v : Vector α n) (i : Fin n) : α := v[i.val]

/-- The table with the record at index `i` replaced. -/
def upd {α : Type} {n : Nat} (v : Vector α n) (i : Fin n) (x : α) : Vector α n := v.set i.val x i.isLt

/-- The table of a rule's value at every index. -/
def tabulate {α : Type} {n : Nat} (f : Fin n → α) : Vector α n := ⟨⟨List.ofFn f⟩, by simp⟩

/-- Every record of a table changed by `f`. -/
def vmap {α β : Type} {n : Nat} (f : α → β) (v : Vector α n) : Vector β n := tabulate fun i => f (look v i)

/-! ## Bit fields -/

/-- The value of the `len` bits of `w` from bit `lo` up. -/
def bits (w : Word) (lo len : Nat) : Nat := (w.toNat >>> lo) % 2 ^ len

/-- The word with the value `v` placed from bit `lo` up. -/
def place (v lo : Nat) : Word := BitVec.ofNat 32 (v <<< lo)

/-- 1 for yes, 0 for no. -/
def flag (b : Bool) : Nat := if b then 1 else 0

/-! ## Records of the state -/

namespace State

/-- Descriptor `d` (R1). -/
def desc (s : State) (d : DescIdx) : Desc := look s.map d

/-- Initiator Port `i`. -/
def port (s : State) (i : Fin 4) : IPort := look s.ports i

/-- Slot `k` of port `i`. -/
def slot (s : State) (i : Fin 4) (k : Fin 8) : Slot := look (s.port i).slots k

/-- Target Port `t`. -/
def tport (s : State) (t : Fin 4) : TPort := look s.tports t

/-- Monitor `m`. -/
def mon (s : State) (m : Fin 16) : Monitor := look s.mons m

/-- Change descriptor `d`. -/
def modDesc (s : State) (d : DescIdx) (f : Desc → Desc) : State := { s with map := upd s.map d (f (s.desc d)) }

/-- Change Initiator Port `i`. -/
def modPort (s : State) (i : Fin 4) (f : IPort → IPort) : State := { s with ports := upd s.ports i (f (s.port i)) }

/-- Change slot `k` of port `i`. -/
def modSlot (s : State) (i : Fin 4) (k : Fin 8) (f : Slot → Slot) : State :=
  s.modPort i fun p => { p with slots := upd p.slots k (f (look p.slots k)) }

/-- Change Target Port `t`. -/
def modTPort (s : State) (t : Fin 4) (f : TPort → TPort) : State :=
  { s with tports := upd s.tports t (f (s.tport t)) }

/-- Change the Migration Engine. -/
def modEng (s : State) (f : Engine → Engine) : State := { s with eng := f s.eng }

/-- Change monitor `m`. -/
def modMon (s : State) (m : Fin 16) (f : Monitor → Monitor) : State := { s with mons := upd s.mons m (f (s.mon m)) }

/-- Change the Event Controller. -/
def modEvc (s : State) (f : EventCtl → EventCtl) : State := { s with evc := f s.evc }

/-- Change the Management Port. -/
def modMgmt (s : State) (f : Mgmt → Mgmt) : State := { s with mgmt := f s.mgmt }

end State

/-! ## Indexes -/

/-- The record of an ordinary descriptor (R1). -/
def ordIdx (d : Fin 64) : DescIdx := d.castSucc

/-- The floor's index (R9). -/
def floorIdx : DescIdx := 64

/-- The 64 ordinary descriptors in index order. -/
def ordinaries : List (Fin 64) := List.finRange 64

/-- The sixteen monitors in number order. -/
def monitors : List (Fin 16) := List.finRange 16

/-- The eight slots of a port. -/
def slotIdxs : List (Fin 8) := List.finRange 8

/-- The four ports of a kind. -/
def four : List (Fin 4) := List.finRange 4

end Sys2Proof.Machine
end

