-- ==== Sys2Proof/Machine/Flags.lean ====
section
/-! DEFINITION. Event flags, their routes and the two lines (chapter 9), and the class numbers (R178). -/

namespace Sys2Proof.Machine

/-- The number of an event class (R178). -/
def EventClass.num : EventClass → Fin 51
  | .decode i => ⟨i.val, by omega⟩
  | .target t => ⟨4 + t.val, by omega⟩
  | .offline t => ⟨8 + t.val, by omega⟩
  | .jobDone => 12
  | .jobFailed => 13
  | .jobAborted => 14
  | .queueRefused => 15
  | .switched => 16
  | .retired => 17
  | .cmdDone => 18
  | .idle m => ⟨19 + m.val, by omega⟩
  | .wake m => ⟨35 + m.val, by omega⟩

/-- Whether a class is pending. -/
def State.isPending (s : State) (c : EventClass) : Bool := look s.evc.pending c.num

/-- The route of a class. -/
def State.routeOf (s : State) (c : EventClass) : Route := look s.evc.route c.num

/-- A block sets a class's flag; a set of a pending class changes nothing (R159). -/
def raise (c : EventClass) (s : State) : State :=
  s.modEvc fun e => { e with pending := upd e.pending c.num true }

/-- A write of `v` to EVENT_PENDING`k`: classes written 1 become not pending (R160, R178). -/
def clearPending (k : Fin 2) (v : Word) (s : State) : State :=
  s.modEvc fun e => { e with
    pending := tabulate fun n =>
      if n.val / 32 = k.val ∧ v.getLsbD (n.val % 32) = true then false else look e.pending n }

/-- Every flag not pending (R166). -/
def clearAllPending (s : State) : State :=
  s.modEvc fun e => { e with pending := Vector.replicate 51 false }

/-- The route a two-bit code names; a code that names none sets OFF (R162, R178). -/
def routeOfCode (c : Nat) : Route :=
  if c = 1 then .irq else if c = 2 then .alert else .off

/-- The code of a route (R178). -/
def routeCode : Route → Nat
  | .off => 0
  | .irq => 1
  | .alert => 2

/-- A write of `v` to EVENT_ROUTE`j` sets the route of every class placed in it (R162, R178). -/
def writeRoutes (j : Fin 4) (v : Word) (s : State) : State :=
  s.modEvc fun e => { e with
    route := tabulate fun n =>
      if n.val / 16 = j.val then routeOfCode (bits v (2 * (n.val % 16)) 2) else look e.route n }

/-- Some class is both pending and routed to `r`. -/
def drives (e : EventCtl) (r : Route) : Bool :=
  (List.finRange 51).any fun n => look e.pending n && decide (look e.route n = r)

/-- The level of IRQ: asserted while a pending class is routed IRQ (R163), and deasserted while RESET_N is asserted
(R165). -/
def State.irq (s : State) : Bool := !s.resetAsserted && drives s.evc .irq

/-- The level of ALERT (R163, R165). -/
def State.alert (s : State) : Bool := !s.resetAsserted && drives s.evc .alert

/-- The level of TRST_N[t], true for high (R100). -/
def State.trstN (s : State) (t : Fin 4) : Bool := !s.resetAsserted && (s.tport t).restoring.isNone

/-- EVENT_PENDING`k` as it reads (R164, R178). -/
def pendingWord (k : Nat) (s : State) : Word :=
  (List.finRange 51).foldl
    (fun w n => if n.val / 32 = k then w ||| place (flag (look s.evc.pending n)) (n.val % 32) else w) 0

/-- EVENT_ROUTE`j` as it reads (R164, R178). -/
def routeWord (j : Nat) (s : State) : Word :=
  (List.finRange 51).foldl
    (fun w n => if n.val / 16 = j then w ||| place (routeCode (look s.evc.route n)) (2 * (n.val % 16)) else w) 0

end Sys2Proof.Machine
end

