-- ==== Sys2Proof/Machine/Ports.lean ====
section
/-! DEFINITION. Slots, legs and the release of held transactions, as the blocks that act on them share them
(chapters 3 and 4). -/

namespace Sys2Proof.Machine

/-- A leg has finished when its status is OK or ERROR (R71). -/
def Leg.finished (l : Leg) : Bool := decide (l.status = .ok) || decide (l.status = .error)

/-- The leg of role `r` with its status set (R73, R74). The roles of one transaction's legs differ (R37). -/
def setLegStatus (r : LegRole) (st : LegStatus) (ls : List Leg) : List Leg :=
  ls.map fun l => if l.role = r then { l with status := st } else l

/-- Whether a hold is of kind SWITCH on descriptor `d` (R57). -/
def Hold.onSwitch (d : DescIdx) : Hold → Bool
  | .switch w => decide (w = d)
  | .line _ _ => false

/-- Whether a hold is of kind LINE on descriptor `d`, any line (R129, the job's end). -/
def Hold.onDescLine (d : DescIdx) : Hold → Bool
  | .switch _ => false
  | .line w _ => decide (w = d)

/-- Whether a hold is of kind LINE on descriptor `d` and line `l` (R129, the line's completion). -/
def Hold.onLine (d : DescIdx) (l : Nat) : Hold → Bool
  | .switch _ => false
  | .line w n => decide (w = d) && decide (n = l)

/-- Whether a release that selects holds by `sel` names this slot: it is HELD, not yet released, and its hold is
selected (R77: a FREE slot and a slot already released are left as they are). -/
def Slot.named (sel : Hold → Bool) (sl : Slot) : Bool :=
  decide (sl.state = .held) && !sl.released &&
    match sl.hold with
    | some h => sel h
    | none => false

/-- Insert slot `k` into a resolution queue at the place of its acceptance position (R77). -/
def insertByPos (slots : Vector Slot 8) (k : Fin 8) : List (Fin 8) → List (Fin 8)
  | [] => [k]
  | j :: q =>
    if (look slots k).pos < (look slots j).pos then k :: j :: q else j :: insertByPos slots k q

/-- A port marks the named slots released and queues them for resolution by acceptance position (R77, R55). -/
def releasePort (sel : Hold → Bool) (p : IPort) : IPort :=
  { p with
    slots := vmap (fun sl => if sl.named sel then { sl with released := true } else sl) p.slots
    resQueue :=
      (slotIdxs.filter fun k => (look p.slots k).named sel).foldl (fun q k => insertByPos p.slots k q) p.resQueue }

/-- The release of every held slot that `sel` selects, at all four ports (R54, R58, R129). -/
def release (sel : Hold → Bool) (s : State) : State := { s with ports := vmap (releasePort sel) s.ports }

/-- Every slot of a port is FREE. -/
def IPort.allFree (p : IPort) : Bool := slotIdxs.all fun k => decide ((look p.slots k).state = .free)

/-- A RESETTING port with IRST_N[i] deasserted and no slot in use becomes ACTIVE with everything empty and its
acceptance positions afresh (R81). -/
def IPort.wakeFromReset (p : IPort) : IPort :=
  if p.state = .resetting ∧ p.irst = false ∧ p.allFree = true then
    { p with
      state := .active, nextPos := 0, legQueues := Vector.replicate 4 [], answers := [], collision := none
      resQueue := [] }
  else p

/-- The request channel is ready (R67). -/
def IPort.ready (p : IPort) : Bool :=
  decide (p.state = .active) && p.collision.isNone && p.resQueue.isEmpty &&
    slotIdxs.any fun k => decide ((look p.slots k).state = .free)

/-- The tag is outstanding: held by a slot in any state but FREE (R68). -/
def IPort.tagOutstanding (p : IPort) (tag : Fin 16) : Bool :=
  slotIdxs.any fun k => decide ((look p.slots k).state ≠ .free) && decide ((look p.slots k).tag = tag)

/-- The FREE slot an accepted request takes. DESIGN CHOICE, log entry 11: the lowest; the choice is not visible
outside the part (R69). -/
def IPort.freeSlot (p : IPort) : Option (Fin 8) := slotIdxs.find? fun k => decide ((look p.slots k).state = .free)

/-- What a port presents on its response channel: tag, code and, for a read answered DONE, the data (R66, R76). -/
def IPort.presented (p : IPort) : Option (Fin 16 × RespCode × List Byte) :=
  if p.state = .resetting then none else
  match p.answers with
  | [] => none
  | .collision :: _ => p.collision.map fun tag => (tag, .decodeErr, [])
  | .slot k :: _ =>
    let sl := look p.slots k
    sl.response.map fun code =>
      (sl.tag, code, if code = .done ∧ sl.dir = .read then sl.readData.getD [] else [])

/-- Put a formed response of slot `k` at the tail of the answer list (R69, R70, R75). -/
def formResponse (i : Fin 4) (k : Fin 8) (code : RespCode) (s : State) : State :=
  s.modPort i fun p =>
    { p with
      slots := upd p.slots k { look p.slots k with state := .issued, response := some code }
      answers := p.answers ++ [.slot k] }

end Sys2Proof.Machine
end

