-- ==== Sys2Proof/Machine/Map.lean ====
section
/-! DEFINITION. Regions, windows and translation, and the Resolver's lookup (chapters 1 and 2). -/

namespace Sys2Proof.Machine

/-- The reasons a command is refused for (00_scope "Commands and results", R170). -/
inductive Reason where
  | state
  | busy
  | align
  | range
  | route
  | conflict
  | full
  | duplicate
  | overlap
  | late
  | notFound
  | unknown
  deriving DecidableEq, Repr

/-! ## Windows -/

/-- The target base is a multiple of 4 KiB (R16 check 3). -/
def Window.aligned (w : Window) : Bool := decide (w.base.toNat % 4096 = 0)

/-- The window of a region of 2^size bytes ends in target space (R16 check 4). -/
def Window.fits (w : Window) (size : Nat) : Bool := decide (w.base.toNat + 2 ^ size ≤ 2 ^ 28)

/-- Two windows of 2^size bytes share a target location (R105 check 8). -/
def Window.overlaps (u v : Window) (size : Nat) : Bool :=
  decide (u.target = v.target) && decide (u.base.toNat < v.base.toNat + 2 ^ size) &&
    decide (v.base.toNat < u.base.toNat + 2 ^ size)

/-- A target address lies in the window of 2^size bytes (R136). -/
def Window.covers (w : Window) (size : Nat) (t : Fin 4) (a : Addr) : Bool :=
  decide (w.target = t) && decide (w.base.toNat ≤ a.toNat) && decide (a.toNat < w.base.toNat + 2 ^ size)

/-- The window of a read route, if it is one. -/
def ReadRoute.win : ReadRoute → Option Window
  | .fault => none
  | .window w => some w

/-- The window of a write route, if it is one. -/
def WriteRoute.win : WriteRoute → Option Window
  | .fault => none
  | .discard => none
  | .window w => some w

/-- The windows among three routes. -/
def routeWindows (r : ReadRoute) (w : WriteRoute) (m : Option Window) : List Window :=
  r.win.toList ++ w.win.toList ++ m.toList

/-- The windows of a descriptor's read, write and mirror routes. -/
def Desc.windows (x : Desc) : List Window := routeWindows x.read x.write x.mirror

/-! ## Regions -/

/-- A region contains A when base ≤ A ≤ base + 2^size - 1 (R29). -/
def Desc.contains (x : Desc) (a : Addr) : Bool :=
  decide (x.base.toNat ≤ a.toNat) && decide (a.toNat < x.base.toNat + 2 ^ x.size)

/-- The number of lines of a region (R2, R121). -/
def Desc.lineCount (x : Desc) : Nat := 2 ^ (x.size - 6)

/-- The line offset of an address within a region (R28). -/
def Desc.lineOf (x : Desc) (a : Addr) : Nat := (a.toNat - x.base.toNat) / 64

/-- The target address b + (A - base) (R3). -/
def Desc.translate (x : Desc) (w : Window) (a : Addr) : Addr := w.base + (a - x.base)

/-- A descriptor in LIVE or MIGRATING takes part in resolution (R11). -/
def Desc.inUse (x : Desc) : Bool := decide (x.state = .live) || decide (x.state = .migrating)

/-- A candidate for an address (R29). -/
def Desc.candidate (x : Desc) (a : Addr) : Bool := x.inUse && x.contains a

/-- A descriptor that enters FREE: the values of R8, but generation and last outcome as they were. -/
def Desc.freed (x : Desc) : Desc := { Desc.powerOn with gen := x.gen, outcome := x.outcome }

/-! ## The winner -/

/-- The better of the best candidate so far and `d`: the one of smaller size (R30). Two candidates of one size do
not arise (R16, R30); between two such the lower index would stay. -/
def betterCandidate (s : State) (a : Addr) (best : Option (Fin 64)) (d : Fin 64) : Option (Fin 64) :=
  if (s.desc (ordIdx d)).candidate a then
    match best with
    | none => some d
    | some e => if (s.desc (ordIdx d)).size < (s.desc (ordIdx e)).size then some d else some e
  else best

/-- The winner for an address: the candidate of the smallest size, the floor when no ordinary descriptor is one
(R29, R30). -/
def winner (s : State) (a : Addr) : DescIdx :=
  match ordinaries.foldl (betterCandidate s a) none with
  | some d => ordIdx d
  | none => floorIdx

/-! ## The outcome of a resolution -/

/-- Outcomes of a resolution (R31). -/
inductive Resolution where
  | heldSwitch
  | readFault
  | writeFault
  | denied
  | discard
  | heldLine (line : Nat)
  | legs (ls : List Leg)
  deriving DecidableEq, Repr

/-- A permission allows a direction (R5, R34). -/
def Perm.allows : Perm → Dir → Bool
  | .none, _ => false
  | .read, .read => true
  | .read, .write => false
  | .readWrite, _ => true

/-- A write on the descriptor reaches the source: its write or mirror window is the read window (R39). -/
def Desc.reachesSource (x : Desc) (w : Window) : Bool :=
  match x.read with
  | .fault => false
  | .window r => decide (w = r) || decide (x.mirror = some r)

/-- The destination leg a write gains below the cursor of a migration (R39). -/
def destinationLeg (s : State) (x : Desc) (w : Window) (a : Addr) : List Leg :=
  match s.eng.active with
  | none => []
  | some j =>
    if x.state = .migrating ∧ x.reachesSource w = true ∧ x.lineOf a < s.eng.cursor then
      [⟨.destination, j.dest.target, x.translate j.dest a, .ungranted⟩]
    else []

/-- The legs of a write in the order write, mirror, destination (R37). -/
def writeLegs (s : State) (x : Desc) (w : Window) (a : Addr) : List Leg :=
  ⟨.write, w.target, x.translate w a, .ungranted⟩ ::
    (x.mirror.toList.map (fun m => ⟨.mirror, m.target, x.translate m a, .ungranted⟩) ++ destinationLeg s x w a)

/-- A write to this line of this winner is held by the line in flight (R31 step 5, R38). -/
def heldByLine (s : State) (x : Desc) (line : Nat) : Bool :=
  decide (x.state = .migrating) && s.eng.active.isSome && decide (s.eng.lineInFlight = some line)

/-- Steps 1 to 6 of R31 for a read. -/
def resolveRead (x : Desc) (i : Fin 4) (a : Addr) : Resolution :=
  if x.switching then .heldSwitch else
  match x.read with
  | .fault => .readFault
  | .window w =>
    if (look x.perms i).allows .read then .legs [⟨.read, w.target, x.translate w a, .ungranted⟩] else .denied

/-- Steps 1 to 6 of R31 for a write. -/
def resolveWrite (s : State) (x : Desc) (i : Fin 4) (a : Addr) : Resolution :=
  if x.switching then .heldSwitch else
  match x.write with
  | .fault => .writeFault
  | .discard => if (look x.perms i).allows .write then .discard else .denied
  | .window w =>
    if !(look x.perms i).allows .write then .denied
    else if heldByLine s x (x.lineOf a) then .heldLine (x.lineOf a)
    else .legs (writeLegs s x w a)

/-- The outcome on the winner, in the order of R31. -/
def resolveOn (s : State) (d : DescIdx) (i : Fin 4) (dir : Dir) (a : Addr) : Resolution :=
  match dir with
  | .read => resolveRead (s.desc d) i a
  | .write => resolveWrite s (s.desc d) i a

end Sys2Proof.Machine
end

