-- ==== Sys2Proof/Machine/Engine.lean ====
section
/-! DEFINITION. Jobs and their ends, generation switches, draining, copying and cutover (chapters 3, 6 and 7). -/

namespace Sys2Proof.Machine

/-! ## The configuration the engine reads (R131, R134, R179) -/

/-- CREDITS of BUDGET (R131). -/
def creditsOf (budget : Word) : Nat := bits budget 8 6

/-- The budget period in microseconds; PERIOD 0 means 256 (R131). -/
def periodOf (budget : Word) : Nat := if bits budget 0 8 = 0 then 256 else bits budget 0 8

/-- RETRY (R134). -/
def retryOf (retry : Word) : Nat := bits retry 0 2

/-! ## The end of a job (R111) -/

/-- The ways a job ends (R111). -/
inductive Ending where
  | completed
  | failed (reason : FailReason) (line : Nat)
  | cancelled
  | retired
  | withdrawn
  deriving DecidableEq, Repr

/-- The last outcome an ending writes (R111). -/
def Ending.outcome : Ending → LastOutcome
  | .completed => .done
  | .failed r n => .failed r n
  | .cancelled => .aborted .cancelled
  | .retired => .aborted .retired
  | .withdrawn => .aborted .withdrawn

/-- The event an ending sets (R111). -/
def Ending.event : Ending → EventClass
  | .completed => .jobDone
  | .failed _ _ => .jobFailed
  | .cancelled => .jobAborted
  | .retired => .jobAborted
  | .withdrawn => .jobAborted

/-- The outcome is written into the descriptor a job names, whatever its state (R111). -/
def writeOutcome (d : DescIdx) (o : LastOutcome) (s : State) : State := s.modDesc d fun x => { x with outcome := o }

/-- Monitor m is told of the end of its idle job and clears the ID if it holds it (R151). -/
def endNotice (j : Job) (s : State) : State :=
  match j.origin with
  | .monitorIdle m => s.modMon m fun x => if x.idleJob = some j.id then { x with idleJob := none } else x
  | .monitorWake _ => s
  | .software => s

/-- A queued job leaves the queue from its position and ends (R104, R111). -/
def endQueued (j : Job) (e : Ending) (s : State) : State :=
  raise e.event <| endNotice j <| writeOutcome (ordIdx j.desc) e.outcome <|
    s.modEng fun g => { g with queue := g.queue.eraseP fun q => decide (q.id = j.id) }

/-- The engine when its active job has ended: ABORTING while a copy request is outstanding, else HALTED if it was
halted or a halt was pending, else IDLE (R111, R112, R121). -/
def Engine.afterJob (g : Engine) : Engine :=
  let h : Engine :=
    { g with
      active := none, started := false, lineInFlight := none, lineStep := none, lineData := none, retryCount := 0 }
  if g.outstanding ≠ 0 then { h with state := .aborting }
  else if g.state = .halted ∨ g.haltPending = true then { h with state := .halted, haltPending := false }
  else { h with state := .idle }

/-- The active job ends (R111): its outcome is written, a MIGRATING descriptor of a started job becomes LIVE, the
writes held on its lines are released, and the engine goes on as `Engine.afterJob` says. -/
def endActive (e : Ending) (s : State) : State :=
  match s.eng.active with
  | none => s
  | some j =>
    let d := ordIdx j.desc
    let s1 := s.modDesc d fun x =>
      { x with
        outcome := e.outcome
        state := if s.eng.started = true ∧ x.state = .migrating then .live else x.state }
    (raise e.event (release (Hold.onDescLine d) (endNotice j s1))).modEng Engine.afterJob

/-! ## Start of a job (R109, R110) -/

/-- What the start checks say (R110). -/
inductive StartVerdict where
  | pass
  | wait
  | fail (r : FailReason)
  deriving DecidableEq, Repr

/-- The start checks in order (R110). -/
def startVerdict (x : Desc) (j : Job) : StartVerdict :=
  if x.state ≠ .live then .fail .state
  else if x.switching then .wait
  else if x.read = .fault then .fail .route
  else if x.windows.any (fun w => j.dest.overlaps w x.size) then .fail .overlap
  else if j.dest.fits x.size then .pass
  else .fail .range

/-- JOB_START: the start checks are taken on a job in STARTING; one that passes starts, in one step; one that fails
ends; one whose descriptor is switching waits (R110). -/
def beginJob (s : State) : State :=
  match s.eng.active with
  | none => s
  | some j =>
    if s.eng.state = .starting then
      match startVerdict (s.desc (ordIdx j.desc)) j with
      | .fail r => endActive (.failed r 0) s
      | .wait => s
      | .pass =>
        (s.modDesc (ordIdx j.desc) fun x => { x with state := .migrating }).modEng fun g =>
          { g with
            started := true, cursor := 0, lineInFlight := none, lineStep := none, lineData := none, retryCount := 0
            state := .copying }
    else s

/-- Descriptor `d` has changed: a job in STARTING that names it takes its start checks, and starts at that moment when
they pass (R110, R117). -/
def recheckStart (d : DescIdx) (s : State) : State :=
  if s.eng.active.map (fun j => ordIdx j.desc) = some d then beginJob s else s

/-- The start checks of JOB_ACTIVATE: a job that fails ends (R110). One that passes is in STARTING, where a claim that
comes together with the activation finds it (R117); its start is the next event (log entry 1). -/
def takeStartChecks (s : State) : State :=
  match s.eng.active with
  | none => s
  | some j =>
    if s.eng.state = .starting then
      match startVerdict (s.desc (ordIdx j.desc)) j with
      | .fail r => endActive (.failed r 0) s
      | .wait => s
      | .pass => s
    else s

/-- The head job becomes active in STARTING and meets its start checks by `checks` (R109). Nothing happens unless the
engine is IDLE, no halt is pending and a job is queued. -/
def takeHead (checks : State → State) (s : State) : State :=
  match s.eng.queue with
  | [] => s
  | j :: rest =>
    if s.eng.state = .idle ∧ s.eng.haltPending = false then
      checks (s.modEng fun g =>
        { g with queue := rest, active := some j, started := false, state := .starting })
    else s

/-- JOB_ACTIVATE (R109). -/
def activateJob (s : State) : State := takeHead takeStartChecks s

/-- The head job becomes active at once within a command (R105, R115), and starts in it when its checks pass (R110). -/
def activateAtOnce (s : State) : State := takeHead beginJob s

/-! ## Beginning a line (R123 to R125, R134) -/

/-- A slot is WAITING with a write counted on `d` at `line` (R123 condition 5, R124). -/
def Slot.showsWrite (d : DescIdx) (line : Nat) (sl : Slot) : Bool :=
  decide (sl.state = .waiting) && decide (sl.dir = .write) &&
    match sl.counted with
    | some c => decide (c.index = d) && decide (c.line = line)
    | none => false

/-- Some slot of some port is such a slot (R123 condition 5). -/
def State.writeWaiting (s : State) (d : DescIdx) (line : Nat) : Bool :=
  four.any fun i => slotIdxs.any fun k => (s.slot i k).showsWrite d line

/-- CREDITS is 0 or a credit is held (R123 condition 4). -/
def State.creditOk (s : State) : Bool := decide (creditsOf s.mgmt.budget = 0) || decide (1 ≤ s.eng.credits)

/-- The conditions for beginning the line at the cursor (R123). -/
def State.lineReady (s : State) : Bool :=
  match s.eng.active with
  | none => false
  | some j =>
    decide (s.eng.state = .copying) && !s.eng.haltPending && s.eng.lineInFlight.isNone &&
      decide (s.eng.cursor < (s.desc (ordIdx j.desc)).lineCount) && s.creditOk &&
      !s.writeWaiting (ordIdx j.desc) s.eng.cursor

/-- The condition for a retry of the line in flight (R134). -/
def State.retryReady (s : State) : Bool :=
  decide (s.eng.state = .copying) && s.eng.lineInFlight.isSome && decide (s.eng.lineStep = some .retryWait) &&
    s.creditOk

/-- A line or a retry can begin (R123, R134). -/
def State.lineDue (s : State) : Bool := s.lineReady || s.retryReady

/-- The engine begins the line at the cursor, or a retry of it: a credit is consumed when CREDITS is not 0, the line
is in flight and its source read is presented (R125). Nothing happens unless a condition holds. -/
def beginLine (s : State) : State :=
  if s.lineDue then
    s.modEng fun g =>
      { g with
        credits := if creditsOf s.mgmt.budget = 0 then g.credits else g.credits - 1
        lineInFlight := some g.cursor
        lineStep := some .sourceRead }
  else s

/-! ## The engine's steps of its own (R109, R110, R123)

Each is taken as soon as its condition holds, though a claim that comes together with it may be taken first (R117, R24,
R40, R132; log entry 1). -/

/-- The head job can become active (R109). -/
def State.activationDue (s : State) : Bool :=
  decide (s.eng.state = .idle) && !s.eng.haltPending && !s.eng.queue.isEmpty

/-- The active job can leave STARTING: it starts or it fails (R110). -/
def State.startDue (s : State) : Bool :=
  match s.eng.active with
  | none => false
  | some j => decide (s.eng.state = .starting) && decide (startVerdict (s.desc (ordIdx j.desc)) j ≠ .wait)

/-! ## Generation switches (R52 to R58) -/

/-- The first three steps of a switch's completion (R54): switching clears, SWITCHED is set, and a MIGRATING descriptor
becomes LIVE and its job ends DONE. -/
def switchDone (d : DescIdx) (s : State) : State :=
  let s1 := raise .switched <| s.modDesc d fun x =>
    { x with switching := false, state := if x.state = .migrating then .live else x.state }
  if (s.desc d).state = .migrating then endActive .completed s1 else s1

/-- The switch of descriptor `d` completes (R54): after `switchDone` the held set is released. A job that waits for it
in STARTING takes its start checks and starts when they pass (R110, R117). -/
def completeSwitch (d : DescIdx) (s : State) : State :=
  recheckStart d (release (Hold.onSwitch d) (switchDone d s))

/-- A switch of descriptor `d` starts, its new routes being installed (R52 steps 2 and 3). With a zero current count
it completes at once, without SWITCHED (R56); a cutover of this kind makes the descriptor LIVE and ends its job
DONE (R140). -/
def startSwitch (d : DescIdx) (s : State) : State :=
  if (s.desc d).cur = 0 then
    let s1 := s.modDesc d fun x =>
      { x with gen := x.gen + 1, state := if x.state = .migrating then .live else x.state }
    if (s.desc d).state = .migrating then endActive .completed s1 else s1
  else
    s.modDesc d fun x => { x with gen := x.gen + 1, prev := x.cur, cur := 0, switching := true }

/-- A DRAINING descriptor with both counts zero becomes FREE and RETIRED is set (R60). -/
def drainEnd (d : DescIdx) (s : State) : State :=
  if (s.desc d).state = .draining ∧ (s.desc d).cur = 0 ∧ (s.desc d).prev = 0 then
    raise .retired (s.modDesc d Desc.freed)
  else s

/-- One count falls: current if the counted generation is the descriptor's, previous if not (R49). -/
def Desc.decrement (gen : BitVec 8) (x : Desc) : Desc :=
  if gen = x.gen then { x with cur := x.cur - 1 } else { x with prev := x.prev - 1 }

/-- A finished counted transaction is uncounted: one count of its descriptor falls (R49). The decrement may complete a
switch (R54) or end a drain (R60). -/
def uncount (c : Counted) (s : State) : State :=
  let s1 := s.modDesc c.index (Desc.decrement c.gen)
  let x := s1.desc c.index
  if c.gen ≠ x.gen ∧ x.switching = true ∧ x.prev = 0 then completeSwitch c.index s1
  else drainEnd c.index s1

/-- The uncount of a slot that was counted, if it was. -/
def uncountIf (c : Option Counted) (s : State) : State :=
  match c with
  | none => s
  | some c => uncount c s

/-! ## Copying and cutover (R122 to R140) -/

/-- The routes cutover installs (R139). -/
def Desc.cutover (x : Desc) (j : Job) : Desc :=
  match j.mode with
  | .move => { x with read := .window j.dest, write := .window j.dest, mirror := none }
  | .shadow =>
    { x with
      read := .window j.dest
      mirror :=
        match x.write with
        | .window _ => some j.dest
        | .fault => none
        | .discard => none }

/-- The engine enters CUTOVER: the destination routes are installed and a generation switch starts (R139, R140). -/
def enterCutover (s : State) : State :=
  match s.eng.active with
  | none => s
  | some j =>
    startSwitch (ordIdx j.desc)
      ((s.modEng fun g => { g with state := .cutover }).modDesc (ordIdx j.desc) fun x => x.cutover j)

/-- The copy request the engine presents to the arbiter of port `t`, if any (R88, R122): the source read or the
destination write of the line in flight, while it is not outstanding. -/
def mengRequest (s : State) (t : Fin 4) : Option ReqBody :=
  match s.eng.active, s.eng.lineStep with
  | some j, some .sourceRead =>
    match (s.desc (ordIdx j.desc)).read with
    | .window w =>
      if s.eng.outstanding = 0 ∧ w.target = t then
        some ⟨.read, w.base + BitVec.ofNat 28 (s.eng.cursor * 64), 64, []⟩
      else none
    | .fault => none
  | some j, some .destWrite =>
    if s.eng.outstanding = 0 ∧ j.dest.target = t then
      some ⟨.write, j.dest.base + BitVec.ofNat 28 (s.eng.cursor * 64), 64, s.eng.lineData.getD []⟩
    else none
  | some _, some .retryWait => none
  | some _, none => none
  | none, _ => none

/-- The engine's request is granted: one is outstanding, and the data of a destination write goes with it
(R125, R126). -/
def mengGranted (s : State) : State :=
  s.modEng fun g =>
    { g with
      outstanding := g.outstanding + 1
      lineData := if g.lineStep = some .destWrite then none else g.lineData }

/-- The line in flight completes (R127): the cursor advances, the writes held on the line are released, and a
pending halt is taken or, at the line count, CUTOVER is entered. -/
def completeLine (s : State) : State :=
  match s.eng.active, s.eng.lineInFlight with
  | some j, some l =>
    let d := ordIdx j.desc
    let s1 := release (Hold.onLine d l) <| s.modEng fun g =>
      { g with cursor := g.cursor + 1, lineInFlight := none, lineStep := none, lineData := none, retryCount := 0 }
    if s1.eng.haltPending then s1.modEng fun g => { g with state := .halted, haltPending := false }
    else if s1.eng.cursor = (s1.desc d).lineCount then enterCutover s1
    else s1
  | some _, none => s
  | none, _ => s

/-- A copy request of the line in flight ended ERROR (R134): a retry below the limit, else the job ends
FAILED (LINE). -/
def copyError (s : State) : State :=
  match s.eng.lineInFlight with
  | none => s
  | some l =>
    if s.eng.retryCount < retryOf s.mgmt.retry then
      s.modEng fun g =>
        { g with retryCount := g.retryCount + 1, lineData := none, lineStep := some .retryWait }
    else endActive (.failed .line l) s

/-- A result in ABORTING: the number falls, and at 0 ABORTING ends (R112). -/
def Engine.abortResult (g : Engine) : Engine :=
  let h : Engine := { g with outstanding := g.outstanding - 1 }
  if h.outstanding ≠ 0 then h
  else if h.haltPending then { h with state := .halted, haltPending := false }
  else { h with state := .idle }

/-- The result of a copy request comes back to the engine (R125 to R127, R134; in ABORTING R112). -/
def copyResult (code : TargetCode) (data : List Byte) (s : State) : State :=
  if s.eng.state = .aborting then s.modEng Engine.abortResult
  else
    let s1 := s.modEng fun g => { g with outstanding := g.outstanding - 1 }
    match code, s.eng.lineStep with
    | .ok, some .sourceRead => s1.modEng fun g => { g with lineData := some data, lineStep := some .destWrite }
    | .ok, some .destWrite => completeLine s1
    | .error, some .sourceRead => copyError s1
    | .error, some .destWrite => copyError s1
    | _, some .retryWait => s1
    | _, none => s1

/-- A DESTINATION leg that ended ERROR is reported: a started job in COPYING or HALTED that names the descriptor and
whose destination window holds the leg's address ends FAILED (MIRROR) (R136). -/
def mirrorReport (c : Counted) (l : Leg) (s : State) : State :=
  match s.eng.active with
  | none => s
  | some j =>
    if ordIdx j.desc = c.index ∧ s.eng.started = true ∧ (s.eng.state = .copying ∨ s.eng.state = .halted) ∧
        j.dest.covers (s.desc c.index).size l.target l.addr = true then
      endActive (.failed .mirror c.line) s
    else s

/-! ## Enqueue and withdrawal (R103 to R107) -/

/-- The IDs held by queued jobs and the active job (R103). -/
def Engine.heldIds (g : Engine) : List (BitVec 8) := g.queue.map Job.id ++ g.active.toList.map Job.id

/-- The first ID from `id` on that is not held, wrapping from 255 to 0 (R103). At most nine are held, so one of the
256 looked at is free. -/
def firstFreeId (held : List (BitVec 8)) : Nat → BitVec 8 → BitVec 8
  | 0, id => id
  | n + 1, id => if held.contains id then firstFreeId held n (id + 1) else id

/-- Checks 2 to 8 of an enqueue in order, for an ordinary descriptor (R105, R106). -/
def enqueueRefusal (s : State) (d : Fin 64) (dest : Window) : Option Reason :=
  let x := s.desc (ordIdx d)
  if x.state ≠ .live then some .state
  else if 8 ≤ s.eng.queue.length then some .full
  else if (s.eng.queue ++ s.eng.active.toList).any (fun j => decide (j.desc = d)) then some .duplicate
  else if x.read = .fault then some .route
  else if !dest.aligned then some .align
  else if !dest.fits x.size then some .range
  else if x.windows.any (fun w => dest.overlaps w x.size) then some .overlap
  else none

/-- The ID the next job gets (R103). -/
def newJobId (s : State) : BitVec 8 := firstFreeId s.eng.heldIds 256 s.eng.nextJobId

/-- A job is formed, takes the first free ID and joins the tail of the queue (R103, R104). -/
def enqueue (d : Fin 64) (dest : Window) (mode : Mode) (origin : Origin) (s : State) : State :=
  s.modEng fun g =>
    { g with
      queue := g.queue ++ [⟨newJobId s, d, dest, mode, origin⟩]
      nextJobId := newJobId s + 1 }

/-- QUEUE MIGRATION's enqueue: a job that joins the empty queue of an IDLE engine, not halted, becomes active at once
(R105), and starts in the same step unless its descriptor is switching (R110). -/
def enqueueAtOnce (d : Fin 64) (dest : Window) (mode : Mode) (s : State) : State :=
  if s.eng.queue.isEmpty then activateAtOnce (enqueue d dest mode .software s) else enqueue d dest mode .software s

end Sys2Proof.Machine
end

