-- ==== Sys2Proof/Machine/Monitor.lean ====
section
/-! DEFINITION. The Activity Monitors: ticks, accesses, going idle, waking and their requests to the engine (chapter
8), with the commands TICK and GO_IDLE. -/

namespace Sys2Proof.Machine

/-! ## Going idle and waking (R149, R150) -/

/-- Monitor m goes idle: IDLE with count 0, IDLE[m] set, and a present idle template asked for (R149). -/
def goIdle (m : Fin 16) (s : State) : State :=
  raise (.idle m) (s.modMon m fun x =>
    { x with state := .idle, count := 0, ask := if x.idleT.isSome then some .idle else none })

/-- What monitor x asks for when it holds no job to withdraw: its wake template, if present (R150 step 4). -/
def Monitor.wakeAsk (x : Monitor) : Option Ask := if x.wakeT.isSome then some .wake else none

/-- Monitor m wakes: COUNTING from its reload, WAKE[m] set, and the withdrawal of its idle job asked for, or with no idle
job its wake template (R150). -/
def wakeUp (m : Fin 16) (s : State) : State :=
  raise (.wake m) (s.modMon m fun x =>
    { x with
      state := .counting, count := x.reload
      ask := match x.idleJob with
        | some id => some (.withdraw id)
        | none => x.wakeAsk })

/-! ## Requests at the engine (R106, R107) -/

/-- The queued job with an ID (R107). -/
def queuedJob (s : State) (id : BitVec 8) : Option Job := s.eng.queue.find? fun j => decide (j.id = id)

/-- Monitor m's enqueue of a template reaches the engine: the job's ID, or none with QUEUE_REFUSED set (R106). -/
def monitorEnqueue (m : Fin 16) (t : Template) (origin : Origin) (s : State) : State × Option (BitVec 8) :=
  match enqueueRefusal s (s.mon m).subject t.dest with
  | some _ => (raise .queueRefused s, none)
  | none => (enqueue (s.mon m).subject t.dest t.mode origin s, some (newJobId s))

/-- The idle enqueue of monitor m and its answer: a job ID becomes the idle job (R149). -/
def takeIdleAsk (m : Fin 16) (s : State) : State :=
  match (s.mon m).idleT with
  | none => s
  | some t =>
    match monitorEnqueue m t (.monitorIdle m) s with
    | (s1, some id) => s1.modMon m fun x => { x with idleJob := some id }
    | (s1, none) => s1

/-- The wake enqueue of monitor m; the monitor records nothing of the answer (R150). -/
def takeWakeAsk (m : Fin 16) (s : State) : State :=
  match (s.mon m).wakeT with
  | none => s
  | some t => (monitorEnqueue m t (.monitorWake m) s).1

/-- The withdrawal of a job by monitor m and its answer (R107, R150): a queued job ends ABORTED (WITHDRAWN) and the idle
job is absent; for another the answer is NOT QUEUED, and the wake template is asked for. -/
def takeWithdrawal (m : Fin 16) (id : BitVec 8) (s : State) : State :=
  match queuedJob s id with
  | some j => (endQueued j .withdrawn s).modMon m fun x => { x with idleJob := none }
  | none => s.modMon m fun x => { x with ask := x.wakeAsk }

/-- The request of monitor m reaches the engine, which takes it at once (R106, R107). -/
def takeAsk (m : Fin 16) (s : State) : State :=
  let s1 := s.modMon m fun x => { x with ask := none }
  match (s.mon m).ask with
  | none => s
  | some .idle => takeIdleAsk m s1
  | some (.withdraw id) => takeWithdrawal m id s1
  | some .wake => takeWakeAsk m s1

/-- The requests of monitor m are taken, the wake enqueue that follows a withdrawal included. Going idle or waking is
one step at the monitor (R149, R150), so a later event at the monitor finds its requests taken. -/
def finishAsks (m : Fin 16) (s : State) : State := takeAsk m (takeAsk m s)

/-- Insert a monitor into a list in rising rank. -/
def insertByRank (draw : Nat) (m : Fin 16) : List (Fin 16) → List (Fin 16)
  | [] => [m]
  | x :: xs =>
    if Config.freeRank draw m.val ≤ Config.freeRank draw x.val then m :: x :: xs else x :: insertByRank draw m xs

/-- The order in which several monitors finish: free (log entry 6). One monitor alone needs no order. -/
def freeOrder (draw : Nat) (ms : List (Fin 16)) : List (Fin 16) :=
  if ms.length ≤ 1 then ms else ms.foldr (insertByRank draw) []

/-- The monitors that `sel` selects finish their requests, in a free order; a draw is used when there are several. -/
def finishAll (sel : Monitor → Bool) (s : State) : State :=
  let ms := monitors.filter fun m => sel (s.mon m) && (s.mon m).ask.isSome
  (freeOrder s.freeDraws ms).foldl (fun s m => finishAsks m s)
    { s with freeDraws := if ms.length ≤ 1 then s.freeDraws else s.freeDraws + 1 }

/-! ## Ticks and accesses at a monitor (R146, R147) -/

/-- Monitor m takes a tick of its selected source (R146). -/
def takeTick (m : Fin 16) (s : State) : State :=
  match (s.mon m).state with
  | .off => s
  | .idle => s
  | .counting =>
    if (s.mon m).count ≤ 1 then goIdle m s else s.modMon m fun x => { x with count := x.count - 1 }

/-- Monitor m takes an admitted access (R147). -/
def takeAccess (m : Fin 16) (s : State) : State :=
  match (s.mon m).state with
  | .off => s
  | .counting => s.modMon m fun x => { x with count := x.reload }
  | .idle => wakeUp m s

/-- The filter admits a direction (R147). -/
def Filter.admits : Filter → Dir → Bool
  | .reads, .read => true
  | .reads, .write => false
  | .writes, .read => false
  | .writes, .write => true
  | .both, _ => true

/-- Monitor m sees accesses of this direction to descriptor `d` (R147). -/
def Monitor.sees (x : Monitor) (d : DescIdx) (dir : Dir) : Bool :=
  decide (ordIdx x.subject = d) && x.filter.admits dir

/-- The monitor that an arrival reaches. -/
def Arrival.monitor : Arrival → Fin 16
  | .tick m _ => m
  | .access m _ _ => m

/-- An arrival is taken by its monitor, as the monitor then stands: a tick of the source it selects (R145), an access to
its subject that its filter admits (R147, R155). -/
def takeArrival (a : Arrival) (s : State) : State :=
  match a with
  | .tick m src => if (s.mon m).tickSel = src then takeTick m s else s
  | .access m d dir => if (s.mon m).sees d dir then takeAccess m s else s

/-- An access notification is sent to every monitor that runs on the winner (R42, R147). -/
def notify (d : DescIdx) (dir : Dir) (s : State) : State :=
  let ms := monitors.filter fun m => decide (ordIdx (s.mon m).subject = d) && decide ((s.mon m).state ≠ .off)
  { s with arrivals := s.arrivals ++ ms.map fun m => .access m d dir }

/-! ## Tick sources (R145) -/

/-- The place of a source in `State.ticks`. -/
def tickIdx : TickSel → Fin 4
  | .t100u => 0
  | .t1m => 1
  | .t10m => 2
  | .t100m => 3

/-- The period of a source in microseconds (R145). -/
def tickPeriod : TickSel → Nat
  | .t100u => 100
  | .t1m => 1000
  | .t10m => 10000
  | .t100m => 100000

/-- A source expires: its next period begins, and a tick is sent to every monitor that runs on it (R145). -/
def expireSource (src : TickSel) (s : State) : State :=
  let ms := monitors.filter fun m => decide ((s.mon m).tickSel = src) && decide ((s.mon m).state ≠ .off)
  { s with
    ticks := upd s.ticks (tickIdx src) (tickPeriod src)
    arrivals := s.arrivals ++ ms.map fun m => .tick m src }

/-! ## The commands -/

/-- TICK: a tick source expires (R145). Each monitor takes the tick as its own event (`takeArrival`). -/
def execTick (src : TickSel) (s : State) : Host.Outcome State Fault Refusal := .next (expireSource src s)

/-- GO_IDLE: a tick reaches monitor m while it counts at 1, and it goes idle (R146, R149). If a tick of its source is on
its way, it is that one. A monitor in another case does not go idle (log entries 5 and 14). -/
def execGoIdle (m : Fin 16) (s : State) : Host.Outcome State Fault Refusal :=
  .next (
    if (s.mon m).state = .counting ∧ (s.mon m).count = 1 then
      goIdle m (finishAsks m { s with arrivals := s.arrivals.erase (.tick m (s.mon m).tickSel) })
    else s)

end Sys2Proof.Machine
end

