-- ==== Sys2Proof/Machine/Operands.lean ====
section
/-! DEFINITION. The layouts of parameter and result words (10.3: R170, R173 to R177). -/

namespace Sys2Proof.Machine

/-! ## Codes -/

/-- The reason code of a refusal (R170). -/
def reasonCode : Reason → Nat
  | .state => 1
  | .busy => 2
  | .align => 3
  | .range => 4
  | .route => 5
  | .conflict => 6
  | .full => 7
  | .duplicate => 8
  | .overlap => 9
  | .late => 10
  | .notFound => 11
  | .unknown => 12

/-- The permission a code names; 3 names none (R174). -/
def permOfCode (c : Nat) : Option Perm :=
  if c = 0 then some .none else if c = 1 then some .read else if c = 2 then some .readWrite else none

/-- The code of a permission (R174). -/
def permCode : Perm → Nat
  | .none => 0
  | .read => 1
  | .readWrite => 2

/-- The code of a read route's kind (R174). -/
def readKind : ReadRoute → Nat
  | .fault => 0
  | .window _ => 2

/-- The code of a write route's kind (R174). -/
def writeKind : WriteRoute → Nat
  | .fault => 0
  | .discard => 1
  | .window _ => 2

/-- The code of a mirror route's kind (R174). -/
def mirrorKind : Option Window → Nat
  | some _ => 2
  | none => 3

/-- The mode a code names (R176, R177). -/
def modeOfCode (c : Nat) : Option Mode := if c = 0 then some .move else if c = 1 then some .shadow else none

/-- The code of a mode (R176). -/
def modeCode : Mode → Nat
  | .move => 0
  | .shadow => 1

/-- The code of a descriptor state (R174). -/
def descStateCode : DescState → Nat
  | .free => 0
  | .staged => 1
  | .live => 2
  | .migrating => 3
  | .draining => 4

/-- The code of an outcome (R174). -/
def outcomeCode : LastOutcome → Nat
  | .none => 0
  | .done => 1
  | .failed _ _ => 2
  | .aborted _ => 3

/-- The reason code of an outcome (R174). -/
def outcomeReasonCode : LastOutcome → Nat
  | .none => 0
  | .done => 0
  | .failed .state _ => 1
  | .failed .route _ => 2
  | .failed .overlap _ => 3
  | .failed .line _ => 4
  | .failed .mirror _ => 5
  | .aborted .cancelled => 6
  | .aborted .retired => 7
  | .aborted .withdrawn => 8
  | .aborted .restart => 9
  | .failed .range _ => 10

/-- The line offset of an outcome (R7, R174). -/
def outcomeLine : LastOutcome → Nat
  | .failed _ n => n
  | .none => 0
  | .done => 0
  | .aborted _ => 0

/-- The code of an engine state (R172). -/
def engStateCode : EngState → Nat
  | .idle => 0
  | .starting => 1
  | .copying => 2
  | .cutover => 3
  | .aborting => 4
  | .halted => 5

/-- The code of a monitor state (R177). -/
def monStateCode : MonState → Nat
  | .off => 0
  | .counting => 1
  | .idle => 2

/-- The tick source a code names (R177). -/
def tickOfCode (c : Nat) : Option TickSel :=
  if c = 0 then some .t100u else if c = 1 then some .t1m else if c = 2 then some .t10m
  else if c = 3 then some .t100m else none

/-- The filter a code names (R177). -/
def filterOfCode (c : Nat) : Option Filter :=
  if c = 0 then some .reads else if c = 1 then some .writes else if c = 2 then some .both else none

/-- The code of a filter (R177). -/
def filterCode : Filter → Nat
  | .reads => 0
  | .writes => 1
  | .both => 2

/-- The code of a leg's role in a PROBE result (R175). -/
def roleCode : LegRole → Nat
  | .read => 0
  | .write => 1
  | .mirror => 2
  | .destination => 3

/-! ## Windows in parameter words -/

/-- A window from a target number and a target base that are in range (R14). -/
def windowOf (target base : Nat) : Option Window :=
  if h : target < 4 then
    if base < 2 ^ 28 then some ⟨⟨target, h⟩, BitVec.ofNat 28 base⟩ else none
  else none

/-- The word with a route's target base in bits 27:0 and its target number in bits 29:28, zero without a window
(R174). -/
def windowWord : Option Window → Word
  | none => 0
  | some w => place w.base.toNat 0 ||| place w.target.val 28

/-! ## STAGE and MODIFY (R174) -/

/-- The three routes and four permissions of a descriptor. -/
structure RouteFields where
  read   : ReadRoute
  write  : WriteRoute
  mirror : Option Window
  perms  : Vector Perm 4
  deriving DecidableEq, Repr

/-- The read route of the parameter words, if in range (R14). -/
def parseRead (p : Vector Word 6) : Option ReadRoute :=
  let kind := bits (look p 0) 24 2
  if kind = 0 then some .fault
  else if kind = 2 then (windowOf (bits (look p 5) 0 8) (look p 2).toNat).map .window
  else none

/-- The write route of the parameter words, if in range (R14). -/
def parseWrite (p : Vector Word 6) : Option WriteRoute :=
  let kind := bits (look p 0) 26 2
  if kind = 0 then some .fault
  else if kind = 1 then some .discard
  else if kind = 2 then (windowOf (bits (look p 5) 8 8) (look p 3).toNat).map .window
  else none

/-- The mirror route of the parameter words, if in range (R14). -/
def parseMirror (p : Vector Word 6) : Option (Option Window) :=
  let kind := bits (look p 0) 28 2
  if kind = 2 then (windowOf (bits (look p 5) 16 8) (look p 4).toNat).map some
  else if kind = 3 then some none
  else none

/-- The permissions of the parameter words, if each code is in range (R14). -/
def parsePerms (p : Vector Word 6) : Option (Vector Perm 4) :=
  match permOfCode (bits (look p 0) 16 2), permOfCode (bits (look p 0) 18 2), permOfCode (bits (look p 0) 20 2),
      permOfCode (bits (look p 0) 22 2) with
  | some a, some b, some c, some d => some ⟨⟨[a, b, c, d]⟩, rfl⟩
  | _, _, _, _ => none

/-- The routes and permissions of the parameter words; none where a field is out of range (R14). -/
def parseRoutes (p : Vector Word 6) : Option RouteFields :=
  match parseRead p, parseWrite p, parseMirror p, parsePerms p with
  | some r, some w, some m, some q => some ⟨r, w, m, q⟩
  | _, _, _, _ => none

/-- The index of STAGE, MODIFY, ACTIVATE, RETIRE, READ DESCRIPTOR and QUEUE MIGRATION: PARAM0 bits 7:0. -/
def paramIndex (p : Vector Word 6) : Nat := bits (look p 0) 0 8

/-- The size exponent of STAGE (R174). -/
def paramSize (p : Vector Word 6) : Nat := bits (look p 0) 8 8

/-- READ DESCRIPTOR's RESULT1 to RESULT7 (R174). -/
def descriptorWords (d : DescIdx) (x : Desc) : List Word :=
  [ place d.val 0 ||| place x.size 8 |||
      place (permCode (look x.perms 0)) 16 ||| place (permCode (look x.perms 1)) 18 |||
      place (permCode (look x.perms 2)) 20 ||| place (permCode (look x.perms 3)) 22 |||
      place (readKind x.read) 24 ||| place (writeKind x.write) 26 ||| place (mirrorKind x.mirror) 28 |||
      place (flag x.switching) 30
  , place x.base.toNat 0 ||| place (descStateCode x.state) 28
  , windowWord x.read.win
  , windowWord x.write.win
  , windowWord x.mirror
  , place x.gen.toNat 0 ||| place x.cur 8 ||| place x.prev 16 ||| place (outcomeCode x.outcome) 24 |||
      place (outcomeReasonCode x.outcome) 26
  , place (outcomeLine x.outcome) 0 ]

/-! ## PROBE (R175) -/

/-- The outcome code of a resolution in a PROBE result (R175). -/
def resolutionCode : Resolution → Nat
  | .legs _ => 0
  | .heldSwitch => 1
  | .readFault => 2
  | .writeFault => 3
  | .denied => 4
  | .discard => 5
  | .heldLine _ => 6

/-- The legs of a resolution. -/
def Resolution.legList : Resolution → List Leg
  | .legs ls => ls
  | .heldSwitch => []
  | .readFault => []
  | .writeFault => []
  | .denied => []
  | .discard => []
  | .heldLine _ => []

/-- A leg's word in a PROBE result (R175). -/
def legWord (l : Leg) : Word := place l.addr.toNat 0 ||| place l.target.val 28 ||| place (roleCode l.role) 30

/-- PROBE's RESULT1 to RESULT4 (R175). -/
def probeWords (d : DescIdx) (o : Resolution) : List Word :=
  (place d.val 0 ||| place (resolutionCode o) 8 ||| place o.legList.length 16) :: o.legList.map legWord

/-! ## Jobs (R176) -/

/-- The origin's code and monitor (R176). -/
def originWord : Origin → Word
  | .software => 0
  | .monitorIdle m => place 1 16 ||| place m.val 24
  | .monitorWake m => place 2 16 ||| place m.val 24

/-- QUERY JOB's RESULT1 to RESULT4 (R176): `position` is 0 for the active job, `state` its engine state. -/
def jobWords (j : Job) (active : Bool) (position state : Nat) (started haltPending : Bool) (cursor : Nat) :
    List Word :=
  [ place (flag active) 0 ||| place position 4 ||| place state 8 ||| place (flag started) 12 |||
      place (flag haltPending) 13 ||| place j.id.toNat 16
  , place cursor 0
  , place j.desc.val 0 ||| place j.dest.target.val 8 ||| place (modeCode j.mode) 12 ||| originWord j.origin
  , place j.dest.base.toNat 0 ]

/-! ## Monitors (R177) -/

/-- A template of SET MONITOR from its two words: none out of range; a template marked absent is not checked
further (R152). -/
def parseTemplate (a b : Word) : Option (Option Template) :=
  let presence := bits a 0 8
  if presence = 0 then some none
  else if presence = 1 then
    match windowOf (bits a 8 8) b.toNat, modeOfCode (bits a 16 8) with
    | some w, some m => some (some ⟨w, m⟩)
    | _, _ => none
  else none

/-- A template's presence, target and mode as PARAM2 and PARAM4 carry them, 0 when absent (R177). -/
def templateWord : Option Template → Word
  | none => 0
  | some t => place 1 0 ||| place t.dest.target.val 8 ||| place (modeCode t.mode) 16

/-- A template's target base, 0 when absent (R177). -/
def templateBase : Option Template → Word
  | none => 0
  | some t => place t.dest.base.toNat 0

/-- READ MONITOR's RESULT1 to RESULT6 (R177). -/
def monitorWords (x : Monitor) : List Word :=
  [ place (monStateCode x.state) 0 ||| place x.subject.val 8 ||| place x.count 16 ||| place x.reload 24
  , place (tickIdx x.tickSel).val 0 ||| place (filterCode x.filter) 8 ||| place (flag x.idleJob.isSome) 16 |||
      (match x.idleJob with
        | some id => place id.toNat 24
        | none => 0)
  , templateWord x.idleT
  , templateBase x.idleT
  , templateWord x.wakeT
  , templateBase x.wakeT ]

end Sys2Proof.Machine
end

