-- ==== Sys2Proof/Machine/Command.lean ====
section
/-! DEFINITION. Taking and ending a command at the Management Port (10.2: R169 to R171). -/

namespace Sys2Proof.Machine

/-- How a command ends: DONE with its data words RESULT1 onward, or REFUSED with a reason (R170). -/
inductive CmdEnd where
  | done (data : List Word)
  | refused (r : Reason)
  deriving DecidableEq, Repr

/-- The reason code of an end, 0 for DONE (R170). -/
def CmdEnd.code : CmdEnd → Nat
  | .done _ => 0
  | .refused r => reasonCode r

/-- The data words of an end; a refused command writes 0 to every one (R170). -/
def CmdEnd.words : CmdEnd → List Word
  | .done ws => ws
  | .refused _ => []

/-- RESULT0 to RESULT7 for the end of the command with a code (R170); a word the layout does not use is 0. -/
def resultWords (cmd : BitVec 8) (e : CmdEnd) : Vector Word 8 :=
  tabulate fun n => if n.val = 0 then place e.code 0 ||| place cmd.toNat 8 else e.words.getD (n.val - 1) 0

/-- The port ends the command in progress, in one step: result words, reason and code into STATUS, CMD_BUSY clear,
CMD_DONE set (R169). -/
def endCommand (e : CmdEnd) (s : State) : State :=
  raise .cmdDone <| s.modMgmt fun g =>
    { g with
      result := resultWords g.command e, lastReason := BitVec.ofNat 4 e.code, lastCommand := g.command, busy := false }

/-- The port takes a command: COMMAND shows its code, the PARAM words are latched and CMD_BUSY is set (R168, R169). -/
def latchCommand (code : BitVec 8) (s : State) : State :=
  s.modMgmt fun g => { g with busy := true, command := code, latched := g.param }

/-- A COMMAND write is ignored and sets OVERRUN (R171). -/
def overrun (s : State) : State := s.modMgmt fun g => { g with overrun := true }

/-- What an owning block does with a command: the state it leaves, and the command's end, or none while the command
goes on (RESTORE TARGET). -/
abbrev Action := State → State × Option CmdEnd

/-- A write of a command code to COMMAND: taken when CMD_BUSY is 0, ignored with OVERRUN when it is 1
(R169, R171). -/
def writeCommand (code : BitVec 8) (act : Action) (s : State) : State :=
  if s.mgmt.busy then overrun s
  else
    match act (latchCommand code s) with
    | (s1, some e) => endCommand e s1
    | (s1, none) => s1

/-- The end of a command that changes nothing but its result. -/
def ends (e : CmdEnd) (s : State) : State × Option CmdEnd := (s, some e)

/-- The command is refused and leaves everything as it was (R13). -/
def refuse (r : Reason) (s : State) : State × Option CmdEnd := (s, some (.refused r))

/-- The command ends DONE without data. -/
def finished (s : State) : State × Option CmdEnd := (s, some (.done []))

end Sys2Proof.Machine
end

