-- ==== Sys2Proof/Machine/Descriptor.lean ====
section
/-! DEFINITION. The descriptor commands STAGE, ACTIVATE, MODIFY, RETIRE and READ DESCRIPTOR (1.4), and PROBE (2.9). -/

namespace Sys2Proof.Machine

/-- The record of an index that is in range, for a command that refuses RANGE above 64 (R13). -/
def withIndex (n : Nat) (act : DescIdx → Action) : Action := fun s =>
  if h : n < 65 then act ⟨n, h⟩ s else refuse .range s

/-! ## STAGE (R15) -/

/-- The staged record: every field replaced; the outcome cleared from FREE (R15). -/
def Desc.staged (x : Desc) (base : Addr) (size : Nat) (f : RouteFields) : Desc :=
  { x with
    state := .staged, switching := false, base := base, size := size, read := f.read, write := f.write
    mirror := f.mirror, perms := f.perms
    outcome := if x.state = .free then .none else x.outcome }

/-- The fields of STAGE in range: base, size, routes and permissions (R14). -/
def parseStage (p : Vector Word 6) : Option (Addr × Nat × RouteFields) :=
  if (look p 1).toNat < 2 ^ 28 ∧ 12 ≤ paramSize p ∧ paramSize p ≤ 28 then
    (parseRoutes p).map fun f => (BitVec.ofNat 28 (look p 1).toNat, paramSize p, f)
  else none

/-- STAGE with its checks in order (R15). -/
def stageAct : Action := fun s =>
  withIndex (paramIndex s.mgmt.latched) (fun d s =>
    if d = floorIdx then refuse .state s
    else if (s.desc d).state ≠ .free ∧ (s.desc d).state ≠ .staged then refuse .state s
    else
      match parseStage s.mgmt.latched with
      | none => refuse .range s
      | some (base, size, f) => finished (s.modDesc d fun x => x.staged base size f)) s

/-! ## ACTIVATE (R16, R17) -/

/-- The mirror is present under a write route that is no window, or equals the write window (R16 check 5, R18
check 7). -/
def mirrorMisplaced (w : WriteRoute) (m : Option Window) : Bool :=
  m.isSome && match w with
    | .fault => true
    | .discard => true
    | .window v => decide (m = some v)

/-- The checks ACTIVATE and MODIFY share, on the routes for a region of this size: ALIGN, RANGE, ROUTE (R16 checks 3
to 5, R18 checks 5 to 7). -/
def routesRefusal (r : ReadRoute) (w : WriteRoute) (m : Option Window) (size : Nat) : Option Reason :=
  if (routeWindows r w m).any (fun v => !v.aligned) then some .align
  else if (routeWindows r w m).any (fun v => !v.fits size) then some .range
  else if mirrorMisplaced w m then some .route
  else none

/-- A descriptor in LIVE, MIGRATING or DRAINING keeps its region (R16). -/
def Desc.holdsRegion (x : Desc) : Bool := x.inUse || decide (x.state = .draining)

/-- Another ordinary descriptor that holds its region has the same base and size (R16 check 6). -/
def State.conflicts (s : State) (d : DescIdx) : Bool :=
  ordinaries.any fun e =>
    decide (ordIdx e ≠ d) && (s.desc (ordIdx e)).holdsRegion &&
      decide ((s.desc (ordIdx e)).base = (s.desc d).base) && decide ((s.desc (ordIdx e)).size = (s.desc d).size)

/-- Why ACTIVATE of a descriptor is refused, checks 2 to 6 in order (R16). -/
def activateRefusal (s : State) (d : DescIdx) : Option Reason :=
  let x := s.desc d
  if x.state ≠ .staged then some .state
  else if x.base.toNat % 2 ^ x.size ≠ 0 then some .align
  else
    match routesRefusal x.read x.write x.mirror x.size with
    | some r => some r
    | none => if s.conflicts d then some .conflict else none

/-- ACTIVATE: the descriptor becomes LIVE and not switching (R17). -/
def activateAct : Action := fun s =>
  withIndex (paramIndex s.mgmt.latched) (fun d s =>
    match activateRefusal s d with
    | some r => refuse r s
    | none => finished (s.modDesc d fun x => { x with state := .live, switching := false })) s

/-! ## MODIFY (R18, R19) -/

/-- The record with the new routes and permissions (R19). -/
def Desc.modified (x : Desc) (f : RouteFields) : Desc :=
  { x with read := f.read, write := f.write, mirror := f.mirror, perms := f.perms }

/-- MODIFY: checks in order, then the new fields are installed and a generation switch starts (R18, R19). -/
def modifyAct : Action := fun s =>
  withIndex (paramIndex s.mgmt.latched) (fun d s =>
    if (s.desc d).state ≠ .live then refuse .state s
    else if (s.desc d).switching then refuse .busy s
    else
      match parseRoutes s.mgmt.latched with
      | none => refuse .range s
      | some f =>
        match routesRefusal f.read f.write f.mirror (s.desc d).size with
        | some r => refuse r s
        | none => finished (startSwitch d (s.modDesc d fun x => x.modified f))) s

/-! ## RETIRE (R20 to R22) -/

/-- A monitor that runs on descriptor `d` goes OFF, its other fields kept (R155). -/
def Monitor.unbound (x : Monitor) (d : DescIdx) : Monitor :=
  if ordIdx x.subject = d ∧ x.state ≠ .off then { x with state := .off, count := 0, idleJob := none } else x

/-- A LIVE or MIGRATING descriptor becomes DRAINING and its switching ends; the job of a MIGRATING one ends
ABORTED (RETIRED) (R21, R22). -/
def leaveUse (d : DescIdx) (s : State) : State :=
  let s1 := s.modDesc d fun x => { x with state := .draining, switching := false }
  if (s.desc d).state = .migrating then endActive .retired s1 else s1

/-- The monitors that run on descriptor `d` finish their requests, against the descriptor still LIVE or MIGRATING
(R155). -/
def finishMonitorsOn (d : DescIdx) (s : State) : State :=
  finishAll (fun x => decide (ordIdx x.subject = d) && decide (x.state ≠ .off)) s

/-- A LIVE or MIGRATING descriptor is withdrawn (R21, R22): it leaves use; the held set of a switching one is
released; its monitors go OFF (R155); a job in STARTING that names it takes its start checks, which it fails (R110);
and with both counts zero the drain ends at once. -/
def withdraw (d : DescIdx) (s : State) : State :=
  let s1 := leaveUse d s
  let s2 := if (s.desc d).switching then release (Hold.onSwitch d) s1 else s1
  let s3 : State := { s2 with mons := vmap (fun m => m.unbound d) s2.mons }
  drainEnd d (recheckStart d s3)

/-- RETIRE (R20 to R22). -/
def retireAct : Action := fun s =>
  withIndex (paramIndex s.mgmt.latched) (fun d s =>
    if d = floorIdx then refuse .state s
    else
      match (s.desc d).state with
      | .free => refuse .state s
      | .draining => refuse .state s
      | .staged => finished (s.modDesc d Desc.freed)
      | .live => finished (withdraw d (finishMonitorsOn d s))
      | .migrating => finished (withdraw d (finishMonitorsOn d s))) s

/-! ## READ DESCRIPTOR (R23) -/

/-- READ DESCRIPTOR (R23, R174). -/
def readDescriptorAct : Action := fun s =>
  withIndex (paramIndex s.mgmt.latched) (fun d s => ends (.done (descriptorWords d (s.desc d))) s) s

/-! ## PROBE (R46) -/

/-- The direction a code names (R175). -/
def dirOfCode (c : Nat) : Option Dir := if c = 0 then some .read else if c = 1 then some .write else none

/-- PROBE: a resolution reported and not taken (R46, R175). -/
def probeAct : Action := fun s =>
  let p := s.mgmt.latched
  if 2 ^ 28 ≤ (look p 0).toNat then refuse .range s
  else if h : bits (look p 1) 0 8 < 4 then
    match dirOfCode (bits (look p 1) 8 8) with
    | none => refuse .range s
    | some dir =>
      let a : Addr := BitVec.ofNat 28 (look p 0).toNat
      let d := winner s a
      ends (.done (probeWords d (resolveOn s d ⟨_, h⟩ dir a))) s
  else refuse .range s

/-! ## The commands -/

/-- STAGE (R15), code 01h. -/
def execStage (s : State) : Host.Outcome State Fault Refusal := .next (writeCommand 0x01 stageAct s)

/-- ACTIVATE (R16), code 02h. -/
def execActivate (s : State) : Host.Outcome State Fault Refusal := .next (writeCommand 0x02 activateAct s)

/-- MODIFY (R18), code 03h. -/
def execModify (s : State) : Host.Outcome State Fault Refusal := .next (writeCommand 0x03 modifyAct s)

/-- RETIRE (R20), code 04h. -/
def execRetire (s : State) : Host.Outcome State Fault Refusal := .next (writeCommand 0x04 retireAct s)

/-- READ DESCRIPTOR (R23), code 05h. -/
def execReadDescriptor (s : State) : Host.Outcome State Fault Refusal :=
  .next (writeCommand 0x05 readDescriptorAct s)

/-- PROBE (R46), code 06h. -/
def execProbe (s : State) : Host.Outcome State Fault Refusal := .next (writeCommand 0x06 probeAct s)

end Sys2Proof.Machine
end

