-- ==== Sys2Proof/Machine/JobCommand.lean ====
section
/-! DEFINITION. The commands on jobs and on the engine (6.3, 6.7), and the engine's own steps as commands. -/

namespace Sys2Proof.Machine

/-! ## QUEUE MIGRATION (R105) -/

/-- The index, destination and mode of QUEUE MIGRATION, check 1 passed (R105, R176). -/
def parseMigration (p : Vector Word 6) : Option (DescIdx × Window × Mode) :=
  if h : paramIndex p < 65 then
    match windowOf (bits (look p 0) 8 8) (look p 1).toNat, modeOfCode (bits (look p 0) 16 8) with
    | some w, some m => some (⟨paramIndex p, h⟩, w, m)
    | _, _ => none
  else none

/-- QUEUE MIGRATION: checks in order, then a job is formed, which may become active and start at once, and its ID is
returned (R105, R110). -/
def queueMigrationAct : Action := fun s =>
  match parseMigration s.mgmt.latched with
  | none => refuse .range s
  | some (d, dest, mode) =>
    if h : d.val < 64 then
      match enqueueRefusal s ⟨d.val, h⟩ dest with
      | some r => refuse r s
      | none => ends (.done [place (newJobId s).toNat 0]) (enqueueAtOnce ⟨d.val, h⟩ dest mode s)
    else refuse .state s

/-! ## CANCEL JOB and QUERY JOB (R113, R116) -/

/-- The active job when it has this ID. -/
def activeJob (s : State) (id : BitVec 8) : Option Job :=
  match s.eng.active with
  | some j => if j.id = id then some j else none
  | none => none

/-- CANCEL JOB (R113). -/
def cancelJobAct : Action := fun s =>
  let n := bits (look s.mgmt.latched 0) 0 16
  if 255 < n then refuse .range s
  else
    match queuedJob s (BitVec.ofNat 8 n) with
    | some j => finished (endQueued j .cancelled s)
    | none =>
      match activeJob s (BitVec.ofNat 8 n) with
      | none => refuse .notFound s
      | some _ => if s.eng.state = .cutover then refuse .late s else finished (endActive .cancelled s)

/-- The cursor QUERY JOB reports for the active job: 0 before its start (R116). -/
def reportedCursor (s : State) : Nat := if s.eng.started then s.eng.cursor else 0

/-- QUERY JOB (R116, R176). A queued job reports not started, cursor 0 and the engine's halt pending (log
entry 24). -/
def queryJobAct : Action := fun s =>
  let n := bits (look s.mgmt.latched 0) 0 16
  if 255 < n then refuse .range s
  else
    match queuedJob s (BitVec.ofNat 8 n) with
    | some j =>
      let position := s.eng.queue.findIdx (fun q => decide (q.id = j.id)) + 1
      ends (.done (jobWords j false position 0 false s.eng.haltPending 0)) s
    | none =>
      match activeJob s (BitVec.ofNat 8 n) with
      | none => refuse .notFound s
      | some j =>
        ends (.done (jobWords j true 0 (engStateCode s.eng.state) s.eng.started s.eng.haltPending
          (reportedCursor s))) s

/-! ## HALT ENGINE and RESUME ENGINE (R114, R115) -/

/-- The engine at HALT ENGINE, none where it is refused STATE (R114). -/
def Engine.halt (g : Engine) : Option Engine :=
  if g.haltPending then none
  else
    match g.state with
    | .halted => none
    | .idle => some { g with state := .halted }
    | .starting => some { g with state := .halted }
    | .copying => some (if g.lineInFlight.isSome then { g with haltPending := true } else { g with state := .halted })
    | .cutover => some { g with haltPending := true }
    | .aborting => some { g with haltPending := true }

/-- HALT ENGINE (R114). -/
def haltEngineAct : Action := fun s =>
  match s.eng.halt with
  | none => refuse .state s
  | some g => finished { s with eng := g }

/-- A HALTED engine goes on as its active job needs; without one the head job becomes active at once (R115). A job that
has not started takes its start checks, and starts at that moment when they pass (R110). -/
def resumeEngine (s : State) : State :=
  match s.eng.active with
  | none => activateAtOnce (s.modEng fun g => { g with state := .idle })
  | some j =>
    if s.eng.started then
      let s1 := s.modEng fun g => { g with state := .copying }
      if s.eng.cursor = (s.desc (ordIdx j.desc)).lineCount then enterCutover s1 else s1
    else beginJob (s.modEng fun g => { g with state := .starting })

/-- RESUME ENGINE (R115). -/
def resumeEngineAct : Action := fun s =>
  if s.eng.state = .halted then finished (resumeEngine s) else refuse .state s

/-! ## Credits (R131 to R133) -/

/-- The budget timer expires: credits held becomes CREDITS and the timer is loaded with the period (R131). -/
def expireBudget (s : State) : State :=
  s.modEng fun g => { g with credits := creditsOf s.mgmt.budget, budgetTimer := periodOf s.mgmt.budget }

/-- The bits of BUDGET that belong to its fields (R179). -/
def budgetWord (v : Word) : Word := place (bits v 0 8) 0 ||| place (bits v 8 6) 8

/-- A BUDGET write (R133): a new PERIOD loads the timer, a lower CREDITS clips the credits held. -/
def writeBudget (v : Word) (s : State) : State :=
  let old := s.mgmt.budget
  let new := budgetWord v
  (s.modMgmt fun g => { g with budget := new }).modEng fun g =>
    { g with
      budgetTimer := if bits new 0 8 = bits old 0 8 then g.budgetTimer else periodOf new
      credits := if creditsOf new < creditsOf old then min g.credits (creditsOf new) else g.credits }

/-- A RETRY write: the limit for the next error (R134, R179). -/
def writeRetry (v : Word) (s : State) : State := s.modMgmt fun g => { g with retry := place (bits v 0 2) 0 }

/-! ## The commands -/

/-- JOB_ACTIVATE (R109). -/
def execJobActivate (s : State) : Host.Outcome State Fault Refusal := .next (activateJob s)

/-- JOB_START (R110). -/
def execJobStart (s : State) : Host.Outcome State Fault Refusal := .next (beginJob s)

/-- LINE_BEGIN (R125). -/
def execLineBegin (s : State) : Host.Outcome State Fault Refusal := .next (beginLine s)

/-- BUDGET_EXPIRY (R131). -/
def execBudgetExpiry (s : State) : Host.Outcome State Fault Refusal := .next (expireBudget s)

/-- QUEUE MIGRATION (R105), code 07h. -/
def execQueueMigration (s : State) : Host.Outcome State Fault Refusal :=
  .next (writeCommand 0x07 queueMigrationAct s)

/-- CANCEL JOB (R113), code 08h. -/
def execCancelJob (s : State) : Host.Outcome State Fault Refusal := .next (writeCommand 0x08 cancelJobAct s)

/-- QUERY JOB (R116), code 09h. -/
def execQueryJob (s : State) : Host.Outcome State Fault Refusal := .next (writeCommand 0x09 queryJobAct s)

/-- HALT ENGINE (R114), code 0Ah. -/
def execHaltEngine (s : State) : Host.Outcome State Fault Refusal := .next (writeCommand 0x0A haltEngineAct s)

/-- RESUME ENGINE (R115), code 0Bh. -/
def execResumeEngine (s : State) : Host.Outcome State Fault Refusal :=
  .next (writeCommand 0x0B resumeEngineAct s)

/-- BUDGET_WRITE (R133). -/
def execBudgetWrite (v : Word) (s : State) : Host.Outcome State Fault Refusal := .next (writeBudget v s)

/-- RETRY_WRITE (R134). -/
def execRetryWrite (v : Word) (s : State) : Host.Outcome State Fault Refusal := .next (writeRetry v s)

end Sys2Proof.Machine
end

