-- ==== Sys2Proof/Machine/MonitorCommand.lean ====
section
/-! DEFINITION. The commands SET MONITOR, STOP MONITOR and READ MONITOR (8.6). -/

namespace Sys2Proof.Machine

/-- The fields of SET MONITOR after its subject: reload, tick select, filter and templates (R152 check 5). -/
structure MonitorFields where
  reload  : Nat
  tickSel : TickSel
  filter  : Filter
  idleT   : Option Template
  wakeT   : Option Template
  deriving DecidableEq, Repr

/-- The fields when each is in range (R152 check 5, R177). -/
def parseMonitor (p : Vector Word 6) : Option MonitorFields :=
  let reload := bits (look p 0) 16 16
  if reload = 0 ∨ 255 < reload then none
  else
    match tickOfCode (bits (look p 1) 0 8), filterOfCode (bits (look p 1) 8 8),
        parseTemplate (look p 2) (look p 3), parseTemplate (look p 4) (look p 5) with
    | some t, some f, some i, some w => some ⟨reload, t, f, i, w⟩
    | _, _, _, _ => none

/-- The record SET MONITOR writes (R152). -/
def Monitor.bound (d : Fin 64) (f : MonitorFields) : Monitor where
  state := .counting
  subject := d
  reload := f.reload
  count := f.reload
  tickSel := f.tickSel
  filter := f.filter
  idleT := f.idleT
  wakeT := f.wakeT
  idleJob := none
  ask := none

/-- A monitor number that is in range, for a command that refuses RANGE above 15. -/
def withMonitor (n : Nat) (act : Fin 16 → Action) : Action := fun s =>
  if h : n < 16 then act ⟨n, h⟩ s else refuse .range s

/-- The monitor number: PARAM0 bits 7:0 (R177). -/
def paramMonitor (p : Vector Word 6) : Nat := bits (look p 0) 0 8

/-- Monitor m is bound: it takes the next tick and the next access, so none sent to it before (R152). -/
def bindMonitor (m : Fin 16) (d : Fin 64) (f : MonitorFields) (s : State) : State :=
  { s.modMon m fun _ => Monitor.bound d f with arrivals := s.arrivals.filter fun a => decide (a.monitor ≠ m) }

/-- SET MONITOR with its checks in order (R152). -/
def setMonitorAct : Action := fun s =>
  withMonitor (paramMonitor s.mgmt.latched) (fun m s =>
    if (s.mon m).state ≠ .off then refuse .state s
    else if h : bits (look s.mgmt.latched 0) 8 8 < 64 then
      if !(s.desc (ordIdx ⟨_, h⟩)).inUse then refuse .state s
      else
        match parseMonitor s.mgmt.latched with
        | none => refuse .range s
        | some f => finished (bindMonitor m ⟨_, h⟩ f s)
    else refuse .range s) s

/-- STOP MONITOR (R153), after the requests of a step the monitor has begun. -/
def stopMonitorAct : Action := fun s =>
  withMonitor (paramMonitor s.mgmt.latched) (fun m s =>
    if (s.mon m).state = .off then refuse .state s
    else finished ((finishAsks m s).modMon m fun x => { x with state := .off, count := 0, idleJob := none })) s

/-- READ MONITOR (R154, R177). -/
def readMonitorAct : Action := fun s =>
  withMonitor (paramMonitor s.mgmt.latched) (fun m s => ends (.done (monitorWords (s.mon m))) s) s

/-- SET MONITOR (R152), code 0Ch. -/
def execSetMonitor (s : State) : Host.Outcome State Fault Refusal := .next (writeCommand 0x0C setMonitorAct s)

/-- STOP MONITOR (R153), code 0Dh. -/
def execStopMonitor (s : State) : Host.Outcome State Fault Refusal :=
  .next (writeCommand 0x0D stopMonitorAct s)

/-- READ MONITOR (R154), code 0Eh. -/
def execReadMonitor (s : State) : Host.Outcome State Fault Refusal :=
  .next (writeCommand 0x0E readMonitorAct s)

end Sys2Proof.Machine
end

