-- ==== Sys2Proof/Machine/Reset.lean ====
section
/-! DEFINITION. Power-on reset (R25 and the resets of each chapter) and RESTART (R180). -/

namespace Sys2Proof.Machine

/-! ## RESTART -/

/-- The engine's record after RESTART (R118): no job, no halt, ABORTING while a copy request is outstanding, credits
held equal to CREDITS. -/
def Engine.restarted (g : Engine) (budget : Word) : Engine :=
  { g with
    queue := [], active := none, started := false, haltPending := false, lineInFlight := none, lineStep := none
    lineData := none, retryCount := 0, credits := creditsOf budget
    state := if g.outstanding ≠ 0 then .aborting else .idle }

/-- Every job RESTART removes or aborts. -/
def Engine.allJobs (g : Engine) : List Job := g.active.toList ++ g.queue

/-- RESTART ends the active job (R118 step 2): a MIGRATING descriptor of a started job becomes LIVE, with its switch
as it is, and the writes held on its lines are released. -/
def restartActive (s : State) : State :=
  match s.eng.active with
  | none => s
  | some j =>
    release (Hold.onDescLine (ordIdx j.desc)) <| s.modDesc (ordIdx j.desc) fun x =>
      { x with state := if s.eng.started = true ∧ x.state = .migrating then .live else x.state }

/-- RESTART on the engine and the map (R26, R118): every job ends ABORTED (RESTART) with no event. -/
def restartEngine (s : State) : State :=
  let s1 := s.eng.allJobs.foldl (fun s j => writeOutcome (ordIdx j.desc) (.aborted .restart) s) s
  (restartActive s1).modEng fun g => g.restarted s.mgmt.budget

/-- RESTART in one step (R180): the engine and the map, then every monitor cleared (R157) and every flag not pending
(R166). Monitors in the middle of a step finish it first, so that the queue is empty after RESTART (R118). -/
def restartAct : Action := fun s =>
  let s1 := restartEngine (finishAll (fun _ => true) s)
  finished (clearAllPending { s1 with mons := Vector.replicate 16 Monitor.cleared })

/-! ## The commands -/

/-- POWER_ON_RESET: RESET_N is deasserted with DEFSEL[2:0] at `defsel` (R25, R9). Every block takes its power-on
values; IRST_N keeps its levels (R82). The queue of waiting commands and the draw counter are the model's own and
stay. -/
def execPowerOnReset (defsel : BitVec 3) (s : State) : Host.Outcome State Fault Refusal :=
  .next { State.powerOn defsel (vmap IPort.irst s.ports) with freeDraws := s.freeDraws, pending := s.pending }

/-- RESET_N_ASSERTION: RESET_N is asserted, which drives every TRST_N[t] low and holds IRQ and ALERT deasserted
(R100, R165). -/
def execResetNAssertion (s : State) : Host.Outcome State Fault Refusal :=
  .next { s with resetAsserted := true }

/-- RESTART (R180), code 10h. -/
def execRestart (s : State) : Host.Outcome State Fault Refusal := .next (writeCommand 0x10 restartAct s)

end Sys2Proof.Machine
end

