-- ==== Sys2Proof/Machine/Initiator.lean ====
section
/-! DEFINITION. The Initiator Ports (chapter 4): acceptance, resolution, leg results, responses and port reset, with
their commands. -/

namespace Sys2Proof.Machine

/-! ## Resolution of a slot (R70) -/

/-- The legs of slot `k` join the leg queues of their targets in list order (R73). -/
def queueLegs (k : Fin 8) (ls : List Leg) (qs : Vector (List LegRef) 4) : Vector (List LegRef) 4 :=
  ls.foldl (fun qs l => upd qs l.target (look qs l.target ++ [⟨k, l.role⟩])) qs

/-- A resolution with legs: the slot is WAITING with its legs, counted on the winner in its generation; the legs
join their queues, the winner's current count rises, and its monitors are notified (R70, R41, R42, R48). -/
def takeLegs (i : Fin 4) (k : Fin 8) (d : DescIdx) (ls : List Leg) (s : State) : State :=
  let x := s.desc d
  let sl := s.slot i k
  let s1 := s.modPort i fun p =>
    { p with
      slots := upd p.slots k
        { sl with
          state := .waiting, hold := none, released := false, legs := ls
          counted := some ⟨d, x.gen, x.lineOf sl.addr⟩ }
      legQueues := queueLegs k ls p.legQueues }
  notify d sl.dir (s1.modDesc d fun x => { x with cur := x.cur + 1 })

/-- The slot is HELD by `h`, not released (R70, R77). -/
def takeHold (i : Fin 4) (k : Fin 8) (h : Hold) (s : State) : State :=
  s.modSlot i k fun sl => { sl with state := .held, hold := some h, released := false }

/-- The slot holds a formed response with no legs (R70). -/
def takeAnswer (i : Fin 4) (k : Fin 8) (code : RespCode) (s : State) : State :=
  formResponse i k code (s.modSlot i k fun sl => { sl with hold := none, released := false })

/-- The transaction in slot `k` of port `i` is resolved against the map as it stands, and the slot takes the outcome
(R27, R31, R70). -/
def resolveSlot (i : Fin 4) (k : Fin 8) (s : State) : State :=
  let sl := s.slot i k
  let d := winner s sl.addr
  match resolveOn s d i sl.dir sl.addr with
  | .heldSwitch => takeHold i k (.switch d) s
  | .heldLine n => takeHold i k (.line d n) s
  | .readFault => raise (.decode i) (takeAnswer i k .decodeErr s)
  | .writeFault => raise (.decode i) (takeAnswer i k .decodeErr s)
  | .denied => raise (.decode i) (takeAnswer i k .decodeErr s)
  | .discard => notify d .write (takeAnswer i k .done s)
  | .legs ls => takeLegs i k d ls s

/-! ## Acceptance (R67 to R69) -/

/-- A bad format: length 0, or bytes that cross a line boundary (R69). -/
def badFormat (r : Request) : Bool := decide (r.len = 0) || decide (64 < r.addr.toNat % 64 + r.len)

/-- A request whose tag is outstanding: DECODE-ERR from the collision place, and DECODE[i] (R68). -/
def refuseTag (i : Fin 4) (r : Request) (s : State) : State :=
  raise (.decode i) (s.modPort i fun p => { p with collision := some r.tag, answers := p.answers ++ [.collision] })

/-- The request is in slot `k` with the port's next acceptance position (R69, R71). -/
def fillSlot (i : Fin 4) (k : Fin 8) (r : Request) (s : State) : State :=
  s.modPort i fun p =>
    { p with
      slots := upd p.slots k
        { Slot.blank with
          state := .held, pos := p.nextPos, tag := r.tag, dir := r.dir, addr := r.addr, len := r.len, data := r.data }
      nextPos := p.nextPos + 1 }

/-- A request is taken (R68, R69): its tag is compared, then its format checked, and a request of good format is
resolved at once. A port that is not ready does not look at it (R67). -/
def acceptRequest (i : Fin 4) (r : Request) (s : State) : State :=
  let p := s.port i
  if !p.ready then s
  else if p.tagOutstanding r.tag then refuseTag i r s
  else
    match p.freeSlot with
    | none => s
    | some k =>
      let s1 := fillSlot i k r s
      if badFormat r then raise (.decode i) (takeAnswer i k .decodeErr s1) else resolveSlot i k s1

/-- The slot at the head of the resolution queue is resolved anew and leaves the queue (R77, R44). When is the sender's
choice (log entry 28). -/
def reResolve (i : Fin 4) (s : State) : State :=
  match (s.port i).resQueue with
  | [] => s
  | k :: q => resolveSlot i k (s.modPort i fun p => { p with resQueue := q })

/-! ## Responses and leg results (R74 to R76, R80) -/

/-- The initiator takes the head of the answer list: the collision place empties, or the slot is freed and its
transaction uncounted (R76). A RESETTING port presents nothing (R79). -/
def takeResponse (i : Fin 4) (s : State) : State :=
  let p := s.port i
  if p.state = .resetting then s
  else
    match p.answers with
    | [] => s
    | .collision :: rest => s.modPort i fun p => { p with answers := rest, collision := none }
    | .slot k :: rest =>
      uncountIf (look p.slots k).counted
        (s.modPort i fun p => { p with answers := rest, slots := upd p.slots k Slot.blank })

/-- The last result of an ORPHANED slot frees it with no response; its transaction is uncounted, and the port may
become ACTIVE (R80, R81). -/
def freeOrphan (i : Fin 4) (k : Fin 8) (s : State) : State :=
  uncountIf (s.slot i k).counted
    (s.modPort i fun p => IPort.wakeFromReset { p with slots := upd p.slots k Slot.blank })

/-- The answer to a transaction whose legs have all finished (R75). -/
def legsAnswer (ls : List Leg) : RespCode :=
  if ls.any (fun l => decide (l.status = .error)) then .targetErr else .done

/-- When every leg of a slot has finished, an ISSUED slot's response is formed and an ORPHANED slot is freed
(R75, R80). -/
def finishSlot (i : Fin 4) (k : Fin 8) (s : State) : State :=
  let sl := s.slot i k
  if sl.legs.all Leg.finished then
    match sl.state with
    | .issued => formResponse i k (legsAnswer sl.legs) s
    | .orphaned => freeOrphan i k s
    | .waiting => s
    | .held => s
    | .free => s
  else s

/-- A failed DESTINATION leg of a slot is reported to the engine with the slot's winner and line (R74). -/
def reportMirror (i : Fin 4) (k : Fin 8) (r : LegRole) (s : State) : State :=
  let sl := s.slot i k
  match r, sl.counted, sl.legs.find? (fun l => decide (l.role = r)) with
  | .destination, some c, some l => mirrorReport c l s
  | _, _, _ => s

/-- A leg's result reaches its slot (R74): its status is recorded, the data of a READ leg kept (discarded for an
orphan, R80), a failed DESTINATION leg reported, and the last result finishes the slot. -/
def legResult (i : Fin 4) (k : Fin 8) (r : LegRole) (code : TargetCode) (data : List Byte) (s : State) : State :=
  let s1 := s.modSlot i k fun sl =>
    { sl with
      legs := setLegStatus r (match code with | .ok => .ok | .error => .error) sl.legs
      readData := if r = .read ∧ code = .ok ∧ sl.state ≠ .orphaned then some data else sl.readData }
  finishSlot i k (match code with
    | .ok => s1
    | .error => reportMirror i k r s1)

/-! ## Port reset (R79 to R81) -/

/-- Some leg is GRANTED and unfinished. -/
def Slot.legOut (sl : Slot) : Bool := sl.legs.any fun l => decide (l.status = .granted)

/-- The slot after a port reset: freed, or ORPHANED on its GRANTED legs, its UNGRANTED legs dropped (R79). -/
def Slot.afterReset (sl : Slot) : Slot :=
  match sl.state with
  | .free => sl
  | .orphaned => sl
  | .held => Slot.blank
  | .waiting =>
    if sl.legOut then { sl with state := .orphaned, legs := sl.legs.filter fun l => decide (l.status ≠ .ungranted) }
    else Slot.blank
  | .issued => if sl.legOut then { sl with state := .orphaned } else Slot.blank

/-- What a slot that a port reset frees at once was counted on (R79, R50). -/
def Slot.uncountedAtReset (sl : Slot) : Option Counted :=
  match sl.state with
  | .waiting => if sl.legOut then none else sl.counted
  | .issued => if sl.legOut then none else sl.counted
  | .free => none
  | .held => none
  | .orphaned => none

/-- The port's own part of the assertion of IRST_N[i] (R79). Every leg in a leg queue is UNGRANTED and leaves it. -/
def IPort.resetAsserted (p : IPort) : IPort :=
  { p with
    state := .resetting, irst := true, slots := vmap Slot.afterReset p.slots, legQueues := Vector.replicate 4 []
    answers := [], collision := none, resQueue := [] }

/-- IRST_N[i] is asserted: the port resets, and the counted slots it frees are uncounted (R79, R65). -/
def assertIrst (i : Fin 4) (s : State) : State :=
  let freed := slotIdxs.map fun k => (s.slot i k).uncountedAtReset
  freed.foldl (fun s c => uncountIf c s) (s.modPort i IPort.resetAsserted)

/-! ## The commands -/

/-- IRST_N_ASSERT (R79). -/
def execIrstNAssert (i : Fin 4) (s : State) : Host.Outcome State Fault Refusal := .next (assertIrst i s)

/-- IRST_N_DEASSERT (R81): the port becomes ACTIVE if no slot is in use, and stays RESETTING otherwise. -/
def execIrstNDeassert (i : Fin 4) (s : State) : Host.Outcome State Fault Refusal :=
  .next (s.modPort i fun p => IPort.wakeFromReset { p with irst := false })

/-- ACCEPT_REQUEST (R69). -/
def execAcceptRequest (i : Fin 4) (r : Request) (s : State) : Host.Outcome State Fault Refusal :=
  .next (acceptRequest i r s)

/-- RE_RESOLUTION (R77). -/
def execReResolution (i : Fin 4) (s : State) : Host.Outcome State Fault Refusal := .next (reResolve i s)

/-- RESPONSE_TAKEN (R76). -/
def execResponseTaken (i : Fin 4) (s : State) : Host.Outcome State Fault Refusal := .next (takeResponse i s)

end Sys2Proof.Machine
end

