-- ==== Sys2Proof/Machine/Target.lean ====
section
/-! DEFINITION. The Target Ports (chapter 5): arbitration, responses, the timer, OFFLINE and restore, with their
commands. -/

namespace Sys2Proof.Machine

/-! ## Results to owners (R86, R96) -/

/-- A request's result goes to its owner: a slot's leg (R74) or the Migration Engine (R125). -/
def ownerResult (o : Owner) (code : TargetCode) (data : List Byte) (s : State) : State :=
  match o with
  | .leg i k r => legResult i k r code data s
  | .meng => copyResult code data s

/-! ## The response timer (R92) -/

/-- TGT_TIMEOUT[t] of the TGT_TIMEOUT word (R179). -/
def timeoutOf (w : Word) (t : Fin 4) : Nat := bits w (8 * t.val) 8

/-- What a load of the timer leaves: the field times 10 microseconds, stopped when the field is 0 (R92). -/
def loadTimer (field : Nat) : Option Nat := if field = 0 then none else some (10 * field)

/-! ## The arbiter (R88, R89) -/

/-- The next requester in the circular order IP0, IP1, IP2, IP3, MENG (R88). -/
def Requester.next : Requester → Requester
  | .ip i => if h : i.val + 1 < 4 then .ip ⟨i.val + 1, h⟩ else .meng
  | .meng => .ip 0

/-- The five requesters from the one after `r` on (R89). -/
def Requester.turnAfter (r : Requester) : List Requester :=
  [r.next, r.next.next, r.next.next.next, r.next.next.next.next, r]

/-- Whether a requester presents to the arbiter of port t (R88). -/
def presents (s : State) (t : Fin 4) : Requester → Bool
  | .ip i => !(look (s.port i).legQueues t).isEmpty
  | .meng => (mengRequest s t).isSome

/-- Port t can take a request: ONLINE with fewer than 16 outstanding, or OFFLINE (R89). -/
def TPort.canTake (p : TPort) : Bool := decide (p.state = .offline) || decide (p.queue.length < 16)

/-- What the target sees of a slot's leg (R35, R37, R85). -/
def legBody (sl : Slot) (l : Leg) : ReqBody := ⟨sl.dir, l.addr, sl.len, sl.data⟩

/-- The slot when a leg of it is granted: the leg is GRANTED, and with no UNGRANTED leg left the slot is ISSUED
(R72, R73). -/
def Slot.grantLeg (r : LegRole) (sl : Slot) : Slot :=
  let ls := setLegStatus r .granted sl.legs
  { sl with
    legs := ls
    state := if ls.any (fun l => decide (l.status = .ungranted)) then sl.state else .issued }

/-- The granted request leaves its requester's presentation and the owner is told (R89 steps 2 and 4); with the
request itself. -/
def handOver (t : Fin 4) (r : Requester) (s : State) : State × Option (ReqBody × Owner) :=
  match r with
  | .meng =>
    match mengRequest s t with
    | some b => (mengGranted s, some (b, .meng))
    | none => (s, none)
  | .ip i =>
    match look (s.port i).legQueues t with
    | [] => (s, none)
    | ref :: rest =>
      let sl := s.slot i ref.slot
      (s.modPort i fun p =>
          { p with
            legQueues := upd p.legQueues t rest
            slots := upd p.slots ref.slot (sl.grantLeg ref.role) },
        (sl.legs.find? fun l => decide (l.role = ref.role)).map fun l =>
          (legBody sl l, .leg i ref.slot ref.role))

/-- A granted request joins the queue of an ONLINE port with the next request number; a queue that was empty loads
the timer (R84, R89, R92). -/
def TPort.push (p : TPort) (timeout : Nat) (b : ReqBody) (o : Owner) : TPort :=
  { p with
    queue := p.queue ++ [⟨b, p.nextNum, o, false⟩]
    nextNum := p.nextNum + 1
    timer := if p.queue.isEmpty then loadTimer timeout else p.timer }

/-- The granted request is taken: into the queue of an ONLINE port (R89), failed at once by an OFFLINE one with
TARGET[t] (R97). -/
def takeGrant (t : Fin 4) (b : ReqBody) (o : Owner) (s : State) : State :=
  match (s.tport t).state with
  | .online => s.modTPort t fun p => p.push (timeoutOf s.mgmt.tgtTimeout t) b o
  | .offline => ownerResult o .error [] (raise (.target t) s)

/-- The arbiter of port t grants the first presenting requester after the last granted one (R89). Nothing happens
when none presents or the port cannot take a request. The moment of a grant (R91) is the sender's choice, and
microseconds may pass before it (log entry 28). -/
def grant (t : Fin 4) (s : State) : State :=
  if !(s.tport t).canTake then s
  else
    match (s.tport t).lastGranted.turnAfter.find? (presents s t) with
    | none => s
    | some r =>
      match handOver t r (s.modTPort t fun p => { p with lastGranted := r }) with
      | (s1, some (b, o)) => takeGrant t b o s1
      | (s1, none) => s1

/-! ## The target's side (R85, R86) -/

/-- The first request not yet taken is taken (R85). -/
def takeFirst : List TReq → List TReq
  | [] => []
  | r :: rs => if r.taken then r :: takeFirst rs else { r with taken := true } :: rs

/-- The request port t presents to its target (R85). -/
def TPort.presentedRequest (p : TPort) : Option TReq := p.queue.find? fun r => !r.taken

/-- Port t enters OFFLINE (R96): the queue empties, the timer stops, TARGET[t] and OFFLINE[t] are set, and every
outstanding request is failed to its owner, oldest first. -/
def enterOffline (t : Fin 4) (s : State) : State :=
  (s.tport t).queue.foldl (fun s r => ownerResult r.owner .error [] s)
    (raise (.offline t) (raise (.target t)
      (s.modTPort t fun p => { p with state := .offline, queue := [], timer := none })))

/-- A response from target t (R86, R87, R95, R97): discarded in OFFLINE; taken for the oldest request when the
numbers are equal; else a protocol error. -/
def targetAnswers (t : Fin 4) (num : BitVec 4) (code : TargetCode) (data : List Byte) (s : State) : State :=
  match (s.tport t).state with
  | .offline => s
  | .online =>
    match (s.tport t).queue with
    | [] => enterOffline t s
    | r :: rest =>
      if r.num = num then
        let s1 := s.modTPort t fun p =>
          { p with
            queue := rest
            timer := if rest.isEmpty then none else loadTimer (timeoutOf s.mgmt.tgtTimeout t) }
        ownerResult r.owner code data (match code with
          | .ok => s1
          | .error => raise (.target t) s1)
      else enterOffline t s

/-- The response timer of port t reaches zero (R93). A timer that is stopped does not. -/
def expireTimer (t : Fin 4) (s : State) : State :=
  if (s.tport t).state = .online ∧ (s.tport t).timer.isSome = true then enterOffline t s else s

/-- A write of TGT_TIMEOUT: each port whose field changes has its timer loaded or stopped (R94). -/
def writeTimeouts (v : Word) (s : State) : State :=
  let old := s.mgmt.tgtTimeout
  { (s.modMgmt fun g => { g with tgtTimeout := v }) with
    tports := tabulate fun t =>
      let p := s.tport t
      if timeoutOf v t = timeoutOf old t then p
      else if p.timer.isSome = true ∨ (p.state = .online ∧ p.queue ≠ []) then
        { p with timer := loadTimer (timeoutOf v t) }
      else { p with timer := none } }

/-! ## RESTORE TARGET (R98, R99) -/

/-- RESTORE TARGET: refused above 3 and ONLINE, else the restore interval of 16 microseconds begins and the command
stays in progress (R98). -/
def restoreTargetAct : Action := fun s =>
  if h : bits (look s.mgmt.latched 0) 0 8 < 4 then
    if (s.tport ⟨_, h⟩).state = .online then refuse .state s
    else (s.modTPort ⟨_, h⟩ fun p => { p with restoring := some 16 }, none)
  else refuse .range s

/-- The restore interval of port t ends: ONLINE, empty, request number 0, and the command ends DONE (R99). A port
that is not restoring has no interval to end. -/
def endRestore (t : Fin 4) (s : State) : State :=
  if (s.tport t).restoring.isSome then
    endCommand (.done [])
      (s.modTPort t fun p =>
        { p with state := .online, restoring := none, queue := [], nextNum := 0, timer := none })
  else s

/-! ## The commands -/

/-- ARBITER_GRANT (R89). -/
def execArbiterGrant (t : Fin 4) (s : State) : Host.Outcome State Fault Refusal := .next (grant t s)

/-- TARGET_REQUEST_TAKEN (R85). -/
def execTargetRequestTaken (t : Fin 4) (s : State) : Host.Outcome State Fault Refusal :=
  .next (s.modTPort t fun p => { p with queue := takeFirst p.queue })

/-- TARGET_RESPONSE (R86). -/
def execTargetResponse (t : Fin 4) (num : BitVec 4) (code : TargetCode) (data : List Byte) (s : State) :
    Host.Outcome State Fault Refusal :=
  .next (targetAnswers t num code data s)

/-- RESPONSE_TIMER_EXPIRY (R93). -/
def execResponseTimerExpiry (t : Fin 4) (s : State) : Host.Outcome State Fault Refusal :=
  .next (expireTimer t s)

/-- RESTORE_END (R99). -/
def execRestoreEnd (t : Fin 4) (s : State) : Host.Outcome State Fault Refusal := .next (endRestore t s)

/-- TGT_TIMEOUT_WRITE (R94). -/
def execTgtTimeoutWrite (v : Word) (s : State) : Host.Outcome State Fault Refusal := .next (writeTimeouts v s)

/-- RESTORE TARGET (R98), code 0Fh. -/
def execRestoreTarget (s : State) : Host.Outcome State Fault Refusal :=
  .next (writeCommand 0x0F restoreTargetAct s)

end Sys2Proof.Machine
end

