-- ==== Sys2Proof/Machine/Window.lean ====
section
/-! DEFINITION. The register window (10.1): the words by offset, writes of them, and what a read returns. -/

namespace Sys2Proof.Machine

/-! ## The words of the window (R168) -/

/-- The words of the window (R168). -/
inductive WindowWord where
  | ident
  | status
  | command
  | param (k : Fin 6)
  | result (k : Fin 8)
  | eventPending (k : Fin 2)
  | eventRoute (j : Fin 4)
  | budget
  | retry
  | tgtTimeout
  | unnamed
  deriving DecidableEq, Repr

/-- The word at a word offset, 0 to 63, four bytes each (R168). -/
def windowAt (off : BitVec 6) : WindowWord :=
  let n := off.toNat
  if n = 0 then .ident
  else if n = 1 then .status
  else if n = 2 then .command
  else if h : 4 ≤ n ∧ n ≤ 9 then .param ⟨n - 4, by omega⟩
  else if h : 16 ≤ n ∧ n ≤ 23 then .result ⟨n - 16, by omega⟩
  else if h : 24 ≤ n ∧ n ≤ 25 then .eventPending ⟨n - 24, by omega⟩
  else if h : 28 ≤ n ∧ n ≤ 31 then .eventRoute ⟨n - 28, by omega⟩
  else if n = 32 then .budget
  else if n = 33 then .retry
  else if n = 34 then .tgtTimeout
  else .unnamed

/-! ## Writes -/

/-- What the owner of a command code does with the command; a code that is not assigned is refused UNKNOWN and acts
on no block (R173). -/
def actionOf (code : BitVec 8) : Action :=
  match code.toNat with
  | 0x01 => stageAct
  | 0x02 => activateAct
  | 0x03 => modifyAct
  | 0x04 => retireAct
  | 0x05 => readDescriptorAct
  | 0x06 => probeAct
  | 0x07 => queueMigrationAct
  | 0x08 => cancelJobAct
  | 0x09 => queryJobAct
  | 0x0A => haltEngineAct
  | 0x0B => resumeEngineAct
  | 0x0C => setMonitorAct
  | 0x0D => stopMonitorAct
  | 0x0E => readMonitorAct
  | 0x0F => restoreTargetAct
  | 0x10 => restartAct
  | _ => refuse .unknown

/-- A write of a word to COMMAND: bits 7:0 are the code and bits 31:8 are ignored (R169). -/
def writeCommandWord (v : Word) (s : State) : State :=
  writeCommand (BitVec.ofNat 8 (bits v 0 8)) (actionOf (BitVec.ofNat 8 (bits v 0 8))) s

/-- A STATUS write clears OVERRUN when bit 1 is set, and does nothing else (R171). -/
def writeStatus (v : Word) (s : State) : State :=
  s.modMgmt fun g => { g with overrun := if v.getLsbD 1 then false else g.overrun }

/-- A write of a word of the window (R168). -/
def writeWindow (w : WindowWord) (v : Word) (s : State) : State :=
  match w with
  | .ident => s
  | .status => writeStatus v s
  | .command => writeCommandWord v s
  | .param k => s.modMgmt fun g => { g with param := upd g.param k v }
  | .result _ => s
  | .eventPending k => clearPending k v s
  | .eventRoute j => writeRoutes j v s
  | .budget => writeBudget v s
  | .retry => writeRetry v s
  | .tgtTimeout => writeTimeouts v s
  | .unnamed => s

/-! ## Reads -/

/-- STATUS as it reads (R172). -/
def statusWord (s : State) : Word :=
  place (flag s.mgmt.busy) 0 ||| place (flag s.mgmt.overrun) 1 ||| place s.mgmt.lastReason.toNat 4 |||
    place s.mgmt.lastCommand.toNat 8 ||| place (engStateCode s.eng.state) 16 |||
    place (flag s.eng.haltPending) 19 ||| place s.eng.queue.length 20

/-- A word of the window as it stands (R168). -/
def windowValue (w : WindowWord) (s : State) : Word :=
  match w with
  | .ident => 0x004008C8
  | .status => statusWord s
  | .command => place s.mgmt.command.toNat 0
  | .param k => look s.mgmt.param k
  | .result k => look s.mgmt.result k
  | .eventPending k => pendingWord k.val s
  | .eventRoute j => routeWord j.val s
  | .budget => s.mgmt.budget
  | .retry => s.mgmt.retry
  | .tgtTimeout => s.mgmt.tgtTimeout
  | .unnamed => 0

/-- What a read of the window returns, as the state stands (R168). A read changes no state, so it is a view and no
command (log entry 20). -/
def readWord (off : BitVec 6) (s : State) : Word := windowValue (windowAt off) s

/-! ## The commands -/

/-- UNKNOWN_COMMAND (R173): a write of the word to COMMAND. -/
def execUnknownCommand (v : Word) (s : State) : Host.Outcome State Fault Refusal :=
  .next (writeCommandWord v s)

/-- COMMAND_OVERRUN (R171): a write of the word to COMMAND, ignored with OVERRUN while CMD_BUSY is 1. With CMD_BUSY
0 there is no overrun and the word is taken as any COMMAND write (R169; log entry 21). -/
def execCommandOverrun (v : Word) (s : State) : Host.Outcome State Fault Refusal :=
  .next (writeWindow .command v s)

/-- STATUS_WRITE (R171). -/
def execStatusWrite (v : Word) (s : State) : Host.Outcome State Fault Refusal := .next (writeStatus v s)

/-- EVENT_PENDING_WRITE (R160). -/
def execEventPendingWrite (k : Fin 2) (v : Word) (s : State) : Host.Outcome State Fault Refusal :=
  .next (clearPending k v s)

/-- EVENT_ROUTE_WRITE (R162). -/
def execEventRouteWrite (j : Fin 4) (v : Word) (s : State) : Host.Outcome State Fault Refusal :=
  .next (writeRoutes j v s)

/-- REGISTER_WRITE (R168): a PARAM word is stored; a read-only or unnamed offset is ignored. At an offset that
another row writes it does what that row does (log entry 21). -/
def execRegisterWrite (off : BitVec 6) (v : Word) (s : State) : Host.Outcome State Fault Refusal :=
  .next (writeWindow (windowAt off) v s)

end Sys2Proof.Machine
end

