-- ==== Sys2Proof/Machine/Dispatch.lean ====
section
/-! DEFINITION. One arm for each command: its meaning. -/

namespace Sys2Proof.Machine

/-- A command's effect on everything but the queue of waiting commands. -/
def exec (i : Instr) (s : State) : Host.Outcome State Fault Refusal :=
  match i with
  | .powerOnReset defsel => Sys2Proof.Machine.execPowerOnReset defsel s
  | .irstNAssert p => Sys2Proof.Machine.execIrstNAssert p s
  | .irstNDeassert p => Sys2Proof.Machine.execIrstNDeassert p s
  | .acceptRequest p r => Sys2Proof.Machine.execAcceptRequest p r s
  | .reResolution p => Sys2Proof.Machine.execReResolution p s
  | .responseTaken p => Sys2Proof.Machine.execResponseTaken p s
  | .arbiterGrant t => Sys2Proof.Machine.execArbiterGrant t s
  | .targetRequestTaken t => Sys2Proof.Machine.execTargetRequestTaken t s
  | .targetResponse t num code data => Sys2Proof.Machine.execTargetResponse t num code data s
  | .responseTimerExpiry t => Sys2Proof.Machine.execResponseTimerExpiry t s
  | .restoreEnd t => Sys2Proof.Machine.execRestoreEnd t s
  | .lineBegin => Sys2Proof.Machine.execLineBegin s
  | .jobActivate => Sys2Proof.Machine.execJobActivate s
  | .jobStart => Sys2Proof.Machine.execJobStart s
  | .budgetExpiry => Sys2Proof.Machine.execBudgetExpiry s
  | .tick src => Sys2Proof.Machine.execTick src s
  | .goIdle m => Sys2Proof.Machine.execGoIdle m s
  | .stage => Sys2Proof.Machine.execStage s
  | .activate => Sys2Proof.Machine.execActivate s
  | .modify => Sys2Proof.Machine.execModify s
  | .retire => Sys2Proof.Machine.execRetire s
  | .readDescriptor => Sys2Proof.Machine.execReadDescriptor s
  | .probe => Sys2Proof.Machine.execProbe s
  | .queueMigration => Sys2Proof.Machine.execQueueMigration s
  | .cancelJob => Sys2Proof.Machine.execCancelJob s
  | .queryJob => Sys2Proof.Machine.execQueryJob s
  | .haltEngine => Sys2Proof.Machine.execHaltEngine s
  | .resumeEngine => Sys2Proof.Machine.execResumeEngine s
  | .setMonitor => Sys2Proof.Machine.execSetMonitor s
  | .stopMonitor => Sys2Proof.Machine.execStopMonitor s
  | .readMonitor => Sys2Proof.Machine.execReadMonitor s
  | .restoreTarget => Sys2Proof.Machine.execRestoreTarget s
  | .restart => Sys2Proof.Machine.execRestart s
  | .unknownCommand v => Sys2Proof.Machine.execUnknownCommand v s
  | .commandOverrun v => Sys2Proof.Machine.execCommandOverrun v s
  | .statusWrite v => Sys2Proof.Machine.execStatusWrite v s
  | .eventPendingWrite k v => Sys2Proof.Machine.execEventPendingWrite k v s
  | .eventRouteWrite j v => Sys2Proof.Machine.execEventRouteWrite j v s
  | .budgetWrite v => Sys2Proof.Machine.execBudgetWrite v s
  | .retryWrite v => Sys2Proof.Machine.execRetryWrite v s
  | .tgtTimeoutWrite v => Sys2Proof.Machine.execTgtTimeoutWrite v s
  | .registerWrite off v => Sys2Proof.Machine.execRegisterWrite off v s
  | .resetNAssertion => Sys2Proof.Machine.execResetNAssertion s

end Sys2Proof.Machine
end

