-- ==== Sys2Proof/Machine/Time.lean ====
section
/-! DEFINITION. What the part does of its own accord, when no command waits: its due events, and the passing of one
microsecond of REFCLK (00_scope "Time"). -/

namespace Sys2Proof.Machine

/-! ## The part's own events (R107, R109, R110, R123, R145, R147) -/

/-- An event that one block of the part has caused and another has not yet taken. -/
inductive PartEvent where
  | activate
  | start
  | line
  | ask (m : Fin 16)
  | arrive (a : Arrival)
  deriving DecidableEq, Repr

/-- The events that are due. A monitor takes no tick and no access while its step is unfinished (R149, R150). A grant and
a re-resolution are not among them: that they fall at their commands alone is the model's choice (R91, R77; log
entry 28). -/
def dueEvents (s : State) : List PartEvent :=
  (if s.activationDue then [.activate] else []) ++ (if s.startDue then [.start] else []) ++
    (if s.lineDue then [.line] else []) ++ (monitors.filter fun m => (s.mon m).ask.isSome).map .ask ++
    (s.arrivals.filter fun a => (s.mon a.monitor).ask.isNone).map .arrive

/-- One of the part's own events is taken. -/
def takeEvent (e : PartEvent) (s : State) : State :=
  match e with
  | .activate => activateJob s
  | .start => beginJob s
  | .line => beginLine s
  | .ask m => takeAsk m s
  | .arrive a => takeArrival a { s with arrivals := s.arrivals.erase a }

/-- One of several due events: free (log entry 6). -/
def chosenEvent (draw : Nat) (e : PartEvent) (es : List PartEvent) : PartEvent :=
  (e :: es).getD (Config.freeRank draw 0 % (es.length + 1)) e

/-! ## A microsecond of REFCLK -/

/-- A count of microseconds left falls by one, unless the next one ends it. -/
def countDown (left : Nat) : Nat := if 1 < left then left - 1 else left

/-- Every running count falls: response timers (R92), restore intervals (R98), the budget timer (R131) and the tick
sources (R145). -/
def countAll (s : State) : State :=
  { s with
    tports := vmap (fun p => { p with timer := p.timer.map countDown, restoring := p.restoring.map countDown }) s.tports
    eng := { s.eng with budgetTimer := countDown s.eng.budgetTimer }
    ticks := vmap countDown s.ticks }

/-- A count that the next microsecond ends. -/
def lastMicrosecond (left : Option Nat) : Bool :=
  match left with
  | none => false
  | some n => decide (n ≤ 1)

/-- The expiries of a microsecond, in the order in which the model takes them (log entry 3). -/
def expiries (s : State) : List (State → State) :=
  ((four.filter fun t => lastMicrosecond (s.tport t).timer).map expireTimer) ++
    ((four.filter fun t => lastMicrosecond (s.tport t).restoring).map endRestore) ++
    (if s.eng.budgetTimer ≤ 1 then [expireBudget] else []) ++
    (([.t100u, .t1m, .t10m, .t100m].filter fun src => decide (look s.ticks (tickIdx src) ≤ 1)).map expireSource)

/-- One microsecond of REFCLK passes (log entry 2): the running counts fall, and those that end expire. -/
def microsecond (s : State) : State := (expiries s).foldl (fun s f => f s) (countAll s)

/-! ## With no command waiting -/

/-- With no command waiting one of the part's own due events is taken; with none due a microsecond passes (log entries
1 and 2). While RESET_N is asserted nothing happens (log entry 10). -/
def partStep (s : State) : State :=
  if s.resetAsserted then s
  else
    match dueEvents s with
    | [] => microsecond s
    | [e] => takeEvent e s
    | e :: es => takeEvent (chosenEvent s.freeDraws e es) { s with freeDraws := s.freeDraws + 1 }

end Sys2Proof.Machine
end

