-- ==== Sys2Proof/WellFormed.lean ====
section
/-! DEFINITION. Which commands the outside world can send. -/

namespace Sys2Proof

/-- A request as the channel can carry it (04 R66): length 0 to 64, write data of the length's number of bytes, a
read without data. A length of 0 and a crossing of a line are carried, and refused by the port (04 R69). -/
def Request.wf (r : Request) : Bool :=
  decide (r.len ≤ 64) &&
    match r.dir with
    | .read => r.data.isEmpty
    | .write => r.data.length == r.len

/-- Bits 7:0 of a COMMAND write name one of the sixteen commands (10 R173). -/
def commandCodeAssigned (v : Word) : Bool :=
  let c := v.toNat % 256
  decide (1 ≤ c) && decide (c ≤ 16)

/-- The word offset belongs to REGISTER_WRITE: a PARAM word, a read-only word or an unnamed offset (10 R168). The
other writable words have rows of their own. -/
def registerWriteOffset (off : BitVec 6) : Bool :=
  let b := 4 * off.toNat
  !([0x04, 0x08, 0x60, 0x64, 0x70, 0x74, 0x78, 0x7C, 0x80, 0x84, 0x88].contains b)

/-- Target data is at most one line, and an ERROR response has none (05 R86). -/
def responseData (code : TargetCode) (data : List Byte) : Bool :=
  match code with
  | .ok => decide (data.length ≤ 64)
  | .error => data.isEmpty

/-- The well-formed commands. -/
def Instr.wf : Instr → Bool
  | .acceptRequest _ r => r.wf
  | .targetResponse _ _ code data => responseData code data
  | .unknownCommand v => !commandCodeAssigned v
  | .registerWrite off _ => registerWriteOffset off
  | .powerOnReset _ => true
  | .irstNAssert _ => true
  | .irstNDeassert _ => true
  | .reResolution _ => true
  | .responseTaken _ => true
  | .arbiterGrant _ => true
  | .targetRequestTaken _ => true
  | .responseTimerExpiry _ => true
  | .restoreEnd _ => true
  | .lineBegin => true
  | .jobActivate => true
  | .jobStart => true
  | .budgetExpiry => true
  | .tick _ => true
  | .goIdle _ => true
  | .stage => true
  | .activate => true
  | .modify => true
  | .retire => true
  | .readDescriptor => true
  | .probe => true
  | .queueMigration => true
  | .cancelJob => true
  | .queryJob => true
  | .haltEngine => true
  | .resumeEngine => true
  | .setMonitor => true
  | .stopMonitor => true
  | .readMonitor => true
  | .restoreTarget => true
  | .restart => true
  | .commandOverrun _ => true
  | .statusWrite _ => true
  | .eventPendingWrite _ _ => true
  | .eventRouteWrite _ _ => true
  | .budgetWrite _ => true
  | .retryWrite _ => true
  | .tgtTimeoutWrite _ => true
  | .resetNAssertion => true

end Sys2Proof
end

