-- ==== Sys2Proof/Safety.lean ====
section
/-! DEFINITION. What a safe run of the block is, the laws that every state of a run obeys, and the views of a state
that the statements use. -/

namespace Sys2Proof.Machine

/-! ## Runs -/

/-- A state that a run passes through: the part after reset, and what a step makes of such a state. The outside
world puts commands on the queue at any moment. -/
inductive Reachable : State → Prop where
  | reset : Reachable State.reset
  | send (s : State) (c : Instr) : Reachable s → c.wf = true → Reachable { s with pending := s.pending ++ [c] }
  | step (s t : State) : Reachable s → step s = .next t → Reachable t

/-- A safe state: its step goes on. The spec gives no event that stops the part. -/
def Safe (s : State) : Prop := ∃ t, step s = .next t

/-- A property that every step keeps. -/
def KeptByStep (P : State → Prop) : Prop := ∀ s t, P s → step s = .next t → P t

/-! ## Views -/

/-- The state in which a command with a code has been taken and has ended so, nothing else changed (R169, R170). -/
def commandEnded (code : BitVec 8) (e : CmdEnd) (s : State) : State := endCommand e (latchCommand code s)

/-- Two states agree on everything that a job, a switch or a monitor's request does not touch. -/
def SameSurround (s t : State) : Prop :=
  t.tports = s.tports ∧ t.mgmt = s.mgmt ∧ t.ticks = s.ticks ∧ t.arrivals = s.arrivals ∧
    t.resetAsserted = s.resetAsserted ∧ t.pending = s.pending

/-- Slots that differ at most in being released (R77). -/
def SameButReleased (a b : Slot) : Prop := ∃ r, b = { a with released := r }

/-- The ports of two states differ at most in held slots being released and queued for resolution (R77). -/
def PortsReleased (s t : State) : Prop :=
  ∀ i, (t.port i).state = (s.port i).state ∧ (t.port i).irst = (s.port i).irst ∧
    (t.port i).nextPos = (s.port i).nextPos ∧ (t.port i).legQueues = (s.port i).legQueues ∧
    (t.port i).answers = (s.port i).answers ∧ (t.port i).collision = (s.port i).collision ∧
    ∀ k, SameButReleased (s.slot i k) (t.slot i k)

/-! ## Laws of the map -/

/-- The floor is LIVE with base 0 and size 28 (R9, R10). -/
def FloorFixed (s : State) : Prop :=
  (s.desc floorIdx).state = .live ∧ (s.desc floorIdx).base = 0 ∧ (s.desc floorIdx).size = 28

/-- Sizes run from 12 to 28, and a region in LIVE, MIGRATING or DRAINING is aligned to its size (R1, R2). -/
def RegionsAligned (s : State) : Prop :=
  ∀ d : Fin 64,
    12 ≤ (s.desc (ordIdx d)).size ∧ (s.desc (ordIdx d)).size ≤ 28 ∧
      ((s.desc (ordIdx d)).holdsRegion = true →
        (s.desc (ordIdx d)).base.toNat % 2 ^ (s.desc (ordIdx d)).size = 0)

/-- No two ordinary descriptors in LIVE, MIGRATING or DRAINING have both the same base and the same size (R16). -/
def RegionsDistinct (s : State) : Prop :=
  ∀ d e : Fin 64, d ≠ e → (s.desc (ordIdx d)).holdsRegion = true → (s.desc (ordIdx e)).holdsRegion = true →
    ¬((s.desc (ordIdx d)).base = (s.desc (ordIdx e)).base ∧ (s.desc (ordIdx d)).size = (s.desc (ordIdx e)).size)

/-- A FREE or STAGED descriptor is not switching and has both in-flight counts zero (R11). -/
def UnusedAtRest (s : State) : Prop :=
  ∀ d : Fin 64, (s.desc (ordIdx d)).state = .free ∨ (s.desc (ordIdx d)).state = .staged →
    (s.desc (ordIdx d)).switching = false ∧ (s.desc (ordIdx d)).cur = 0 ∧ (s.desc (ordIdx d)).prev = 0

/-- A switching descriptor is LIVE or MIGRATING, waits on a previous count and has a current count of zero; and a
previous count is non-zero only while switching or DRAINING (R49, R53). -/
def SwitchesWait (s : State) : Prop :=
  ∀ d : DescIdx,
    ((s.desc d).switching = true → (s.desc d).inUse = true ∧ (s.desc d).cur = 0 ∧ (s.desc d).prev ≠ 0) ∧
      ((s.desc d).prev ≠ 0 → (s.desc d).switching = true ∨ (s.desc d).state = .draining)

/-! ## Laws of the engine -/

/-- An ordinary descriptor is MIGRATING exactly when the active job names it and has started (R110), and the floor
never is. -/
def MigratingIsStarted (s : State) : Prop :=
  (s.desc floorIdx).state ≠ .migrating ∧
    ∀ d : Fin 64, (s.desc (ordIdx d)).state = .migrating ↔
      s.eng.started = true ∧ s.eng.active.map Job.desc = some d

/-- The engine's state with its active job, as R108 tabulates it: no job in IDLE and ABORTING, an unstarted one in
STARTING, a started one in COPYING and CUTOVER, any or none in HALTED. -/
def Engine.stateFits (g : Engine) : Prop :=
  match g.state with
  | .idle => g.active = none ∧ g.started = false
  | .aborting => g.active = none ∧ g.started = false
  | .starting => g.active.isSome = true ∧ g.started = false
  | .copying => g.active.isSome = true ∧ g.started = true
  | .cutover => g.active.isSome = true ∧ g.started = true
  | .halted => g.started = true → g.active.isSome = true

/-- A line in flight is the line at the cursor of a COPYING engine, and has a step; no step without one
(R108, R121). -/
def Engine.lineFits (g : Engine) : Prop :=
  (∀ l, g.lineInFlight = some l → g.state = .copying ∧ l = g.cursor) ∧
    (g.lineInFlight.isSome = g.lineStep.isSome)

/-- At most one copy request is outstanding: of the line in flight, not in RETRY WAIT, or of an ABORTING engine,
which has one (R108, R112, R137). -/
def Engine.requestFits (g : Engine) : Prop :=
  g.outstanding ≤ 1 ∧ (g.state = .aborting → g.outstanding = 1) ∧
    (g.outstanding = 1 → g.state = .aborting ∨ g.lineStep = some .sourceRead ∨ g.lineStep = some .destWrite)

/-- The engine's record is one that R108 and R121 allow, its descriptor is MIGRATING as R110 says, and it is
switching in CUTOVER alone (R12). -/
def EngineFits (s : State) : Prop :=
  s.eng.stateFits ∧ s.eng.lineFits ∧ s.eng.requestFits ∧ MigratingIsStarted s ∧
    ∀ d : Fin 64, (s.desc (ordIdx d)).state = .migrating →
      ((s.desc (ordIdx d)).switching = true ↔ s.eng.state = .cutover)

/-- The jobs that live: queued and active (R102). -/
def Engine.jobs (g : Engine) : List Job := g.queue ++ g.active.toList

/-- Living jobs have different IDs and name different descriptors, and at most 8 are queued (R103, R104). -/
def JobsDistinct (s : State) : Prop :=
  s.eng.queue.length ≤ 8 ∧ (s.eng.jobs.map Job.id).Nodup ∧ (s.eng.jobs.map Job.desc).Nodup

/-- Credits held never exceed CREDITS (R131). -/
def CreditsBounded (s : State) : Prop := s.eng.credits ≤ creditsOf s.mgmt.budget

/-! ## Laws of the ports and the monitors -/

/-- A Target Port's record is one that R83 allows: at most 16 outstanding requests with numbers in turn up to the
next one (R84); OFFLINE with no request and no timer, and restoring only OFFLINE (R92, R96, R98); a running timer
between 1 and 2,550 microseconds, over an outstanding request. -/
def TPort.fits (p : TPort) : Prop :=
  p.queue.length ≤ 16 ∧
    (∀ k r, p.queue[k]? = some r → r.num = p.nextNum - BitVec.ofNat 4 (p.queue.length - k)) ∧
    (p.state = .offline → p.queue = [] ∧ p.timer = none) ∧ (p.restoring.isSome = true → p.state = .offline) ∧
    (∀ n, p.restoring = some n → 1 ≤ n ∧ n ≤ 16) ∧
    (∀ n, p.timer = some n → 1 ≤ n ∧ n ≤ 2550 ∧ p.queue ≠ [])

/-- Every Target Port's record fits. -/
def TargetPortsFit (s : State) : Prop := ∀ t, (s.tport t).fits

/-- CMD_BUSY is 1 exactly while one port, and no other, is restoring (R98, R169). -/
def BusyIsRestoring (s : State) : Prop :=
  (s.mgmt.busy = true ↔ ∃ t, (s.tport t).restoring.isSome = true) ∧
    ∀ t u, (s.tport t).restoring.isSome = true → (s.tport u).restoring.isSome = true → t = u

/-- A monitor's count is 0 in OFF and IDLE and between 1 and its reload in COUNTING; a monitor OFF has no idle job
(R144). A request on its way is one that its state makes (R149, R150). -/
def Monitor.fits (x : Monitor) : Prop :=
  1 ≤ x.reload ∧ x.reload ≤ 255 ∧ (x.ask = some .idle → x.idleT.isSome = true) ∧
    (x.ask = some .wake → x.wakeT.isSome = true) ∧
    match x.state with
    | .off => x.count = 0 ∧ x.idleJob = none ∧ x.ask = none
    | .counting => 1 ≤ x.count ∧ x.count ≤ x.reload ∧ x.ask ≠ some .idle
    | .idle => x.count = 0 ∧ (x.ask = none ∨ x.ask = some .idle)

/-- Every monitor's record fits, and the subject of one that runs is LIVE or MIGRATING (R144). -/
def MonitorsFit (s : State) : Prop :=
  ∀ m, (s.mon m).fits ∧ ((s.mon m).state ≠ .off → (s.desc (ordIdx (s.mon m).subject)).inUse = true)

/-! ## Laws of the slots -/

/-- A slot's record is one that R71 allows. A FREE slot is blank; a HELD one has neither count, leg nor response; a
WAITING one is counted and has an UNGRANTED leg; an ISSUED one has no UNGRANTED leg, is counted when it has legs (R48),
and has a response exactly when all its legs have finished (R75); an ORPHANED one is counted and waits on a GRANTED leg
alone (R79). -/
def Slot.fits (sl : Slot) : Prop :=
  (sl.legs.map Leg.role).Nodup ∧
    match sl.state with
    | .free => sl = Slot.blank
    | .held => sl.counted = none ∧ sl.legs = [] ∧ sl.response = none
    | .waiting => sl.counted.isSome = true ∧ sl.response = none ∧ ∃ l ∈ sl.legs, l.status = .ungranted
    | .issued =>
      (∀ l ∈ sl.legs, l.status ≠ .ungranted) ∧ (sl.legs ≠ [] → sl.counted.isSome = true) ∧
        (sl.response.isSome = true ↔ ∀ l ∈ sl.legs, l.status ≠ .granted)
    | .orphaned =>
      sl.counted.isSome = true ∧ sl.response = none ∧ (∀ l ∈ sl.legs, l.status ≠ .ungranted) ∧
        ∃ l ∈ sl.legs, l.status = .granted

/-- The lists of a port name its slots as R73, R76 and R77 say, each once: a leg queue the UNGRANTED legs of WAITING
slots at its target, the answer list the formed responses and the collision place, the resolution queue the released
HELD slots. -/
def IPort.listsFit (p : IPort) : Prop :=
  (∀ t, (look p.legQueues t).Nodup ∧ ∀ ref : LegRef, ref ∈ look p.legQueues t ↔
    (look p.slots ref.slot).state = .waiting ∧
      ∃ l ∈ (look p.slots ref.slot).legs, l.role = ref.role ∧ l.target = t ∧ l.status = .ungranted) ∧
  (p.answers.Nodup ∧ (Answer.collision ∈ p.answers ↔ p.collision.isSome = true) ∧
    ∀ k, Answer.slot k ∈ p.answers ↔
      (look p.slots k).state = .issued ∧ (look p.slots k).response.isSome = true) ∧
  (p.resQueue.Nodup ∧
    ∀ k, k ∈ p.resQueue ↔ (look p.slots k).state = .held ∧ (look p.slots k).released = true)

/-- A port is RESETTING exactly while IRST_N[i] is asserted or a slot is ORPHANED; then no slot is in another state
than FREE or ORPHANED and the collision place is empty (R67, R79, R81). -/
def IPort.stateFits (p : IPort) : Prop :=
  (p.state = .resetting ↔ p.irst = true ∨ ∃ k, (look p.slots k).state = .orphaned) ∧
    (p.state = .resetting → p.collision = none ∧
      ∀ k, (look p.slots k).state = .free ∨ (look p.slots k).state = .orphaned)

/-- Every Initiator Port's record fits. -/
def PortsFit (s : State) : Prop :=
  ∀ i, (s.port i).listsFit ∧ (s.port i).stateFits ∧ ∀ k, (s.slot i k).fits

/-- The owners of the outstanding requests of a Target Port, oldest first (R83). -/
def TPort.owners (p : TPort) : List Owner := p.queue.map TReq.owner

/-- A Target Port has one outstanding request for each GRANTED leg at its target (R73, R86): no result is lost, and
none comes twice. The engine's outstanding requests are those whose owner is the engine (R108). -/
def OwnersFit (s : State) : Prop :=
  (∀ t i k r, (s.tport t).owners.count (.leg i k r) =
    (s.slot i k).legs.countP fun l => decide (l.role = r ∧ l.target = t ∧ l.status = .granted)) ∧
  (four.map fun t => (s.tport t).owners.count .meng).sum = s.eng.outstanding

/-! ## The law of the in-flight counts -/

/-- A slot is counted on descriptor `d` in generation `gen`. -/
def Slot.countedIn (d : DescIdx) (gen : BitVec 8) (sl : Slot) : Bool :=
  match sl.counted with
  | some c => decide (c.index = d) && decide (c.gen = gen)
  | none => false

/-- A slot is counted on descriptor `d` in another generation than `gen`. -/
def Slot.countedBefore (d : DescIdx) (gen : BitVec 8) (sl : Slot) : Bool :=
  match sl.counted with
  | some c => decide (c.index = d) && !decide (c.gen = gen)
  | none => false

/-- The 32 slots of the part. -/
def State.allSlots (s : State) : List Slot := four.flatMap fun i => slotIdxs.map fun k => s.slot i k

/-- The in-flight current count is the number of slots counted in the present generation, and the previous count the
number counted in another (R6, R48, R49). -/
def CountsMatchSlots (s : State) : Prop :=
  ∀ d : DescIdx,
    (s.desc d).cur = s.allSlots.countP (Slot.countedIn d (s.desc d).gen) ∧
      (s.desc d).prev = s.allSlots.countP (Slot.countedBefore d (s.desc d).gen)

/-- The laws of the transactions in the part, with those of the map and the engine that they rest on. -/
def TransactionsFit (s : State) : Prop :=
  PortsFit s ∧ OwnersFit s ∧ CountsMatchSlots s ∧ TargetPortsFit s ∧ EngineFits s ∧ UnusedAtRest s ∧
    SwitchesWait s ∧ FloorFixed s

/-- All the laws together: the state is one that the part can be in. -/
def Lawful (s : State) : Prop :=
  TransactionsFit s ∧ RegionsAligned s ∧ RegionsDistinct s ∧ JobsDistinct s ∧ CreditsBounded s ∧ BusyIsRestoring s ∧
    MonitorsFit s

end Sys2Proof.Machine
end

