-- ==== Sys2Proof/Certificates/Slice0/Obligations.lean ====
section
/-! DEFINITION. The statements for the provers, each a rule of the spec or a law that follows from several.
`commandEnded code e u` is `u` with its Management Port as R169 and R170 leave it and CMD_DONE set. -/

open Sys2Proof Sys2Proof.Machine

/-! ## The queue of waiting commands -/

/-- A step with a command at the front of the queue is `exec` of it on the state with the queue's rest. -/
def Obligations.StepRunsTheFrontCommand : Prop :=
  ∀ (c : Instr) (rest : List Instr) (s : State),
    step { s with pending := c :: rest } = exec c { s with pending := rest }

/-- A step on an empty queue takes one of the part's own due events, whichever (log entries 1, 6 and 27: the model's
choice); with none due a microsecond of REFCLK passes (log entry 2): every response timer, restore interval, budget timer
and tick source above 1 is one less, and those at 1 expire, each as its command says, in the order of log entry 3 (log
entry 19: the phase of REFCLK). An activation, a start and a line are due when their commands would do something
(R109, R110, R123); a monitor's request when it is on its way; a tick or an access when it is on its way to a monitor
without one. A grant and a re-resolution are never due (log entry 28: the model's choice). While RESET_N is asserted nothing changes (log entry 10). -/
def Obligations.EmptyQueueTakesADueEventOrAMicrosecond : Prop :=
  (∀ s : State, s.pending = [] →
     (s.resetAsserted = true → step s = .next s) ∧
     (s.resetAsserted = false → dueEvents s ≠ [] →
       ∃ e ∈ dueEvents s, ∃ n, step s = .next (takeEvent e { s with freeDraws := n })) ∧
     (s.resetAsserted = false → dueEvents s = [] →
       let less (n : Nat) : Nat := if 1 < n then n - 1 else n
       let ends (left : Option Nat) : Bool := left.any fun n => decide (n ≤ 1)
       let counted : State :=
         { s with
           tports := tabulate fun t =>
             { s.tport t with timer := (s.tport t).timer.map less, restoring := (s.tport t).restoring.map less }
           eng := { s.eng with budgetTimer := less s.eng.budgetTimer }
           ticks := tabulate fun k => less (look s.ticks k) }
       let expired : List Instr :=
         (([0, 1, 2, 3].filter fun t => ends (s.tport t).timer).map .responseTimerExpiry) ++
           (([0, 1, 2, 3].filter fun t => ends (s.tport t).restoring).map .restoreEnd) ++
           ([Instr.budgetExpiry].filter fun _ => decide (s.eng.budgetTimer ≤ 1)) ++
           ([Instr.tick .t100u].filter fun _ => decide (look s.ticks 0 ≤ 1)) ++
           ([Instr.tick .t1m].filter fun _ => decide (look s.ticks 1 ≤ 1)) ++
           ([Instr.tick .t10m].filter fun _ => decide (look s.ticks 2 ≤ 1)) ++
           ([Instr.tick .t100m].filter fun _ => decide (look s.ticks 3 ≤ 1))
       step s = .next (expired.foldl
         (fun v c => match exec c v with | .next w => w | .fault _ => v | .refused _ => v) counted))) ∧
  (∀ s : State,
     (.activate ∈ dueEvents s ↔ exec .jobActivate s ≠ .next s) ∧
     (.start ∈ dueEvents s ↔ exec .jobStart s ≠ .next s) ∧
     (.line ∈ dueEvents s ↔ exec .lineBegin s ≠ .next s) ∧
     (∀ m, .ask m ∈ dueEvents s ↔ (s.mon m).ask ≠ none) ∧
     (∀ a, .arrive a ∈ dueEvents s ↔ a ∈ s.arrivals ∧ (s.mon a.monitor).ask = none) ∧
     exec .jobActivate s = .next (takeEvent .activate s) ∧ exec .jobStart s = .next (takeEvent .start s) ∧
     exec .lineBegin s = .next (takeEvent .line s))

/-- Every step from every state goes on: no command faults or is refused. No command touches the queue of waiting
commands. -/
def Obligations.EveryStepGoesOn : Prop :=
  (∀ s : State, Safe s) ∧
  (∀ (c : Instr) (s t : State), exec c s = .next t → t.pending = s.pending)

/-! ## Resets -/

/-- Power-on reset returns the 65 records to the values of R8 and R9, sets no event, and is taken in every state
(R25). -/
def Obligations.PowerOnResetSetsTheMap : Prop :=
  ∀ (defsel : BitVec 3) (s : State), ∃ t, exec (.powerOnReset defsel) s = .next t ∧
    (∀ d : Fin 64, t.desc (ordIdx d) =
      ⟨.free, false, 0, 12, .fault, .fault, none, Vector.replicate 4 .none, 0, 0, 0, .none⟩) ∧
    (∀ h : defsel.toNat < 4, t.desc floorIdx =
      ⟨.live, false, 0, 28, .window ⟨⟨defsel.toNat, h⟩, 0⟩, .window ⟨⟨defsel.toNat, h⟩, 0⟩, none,
        Vector.replicate 4 .readWrite, 0, 0, 0, .none⟩) ∧
    (4 ≤ defsel.toNat → t.desc floorIdx =
      ⟨.live, false, 0, 28, .fault, .fault, none, Vector.replicate 4 .readWrite, 0, 0, 0, .none⟩) ∧
    ∀ c, t.isPending c = false

/-- Power-on reset leaves every other block as its chapter says: ports (R82), Target Ports (R83), engine (R108, R121),
monitors (R143), tick sources (R145), events (R165) and window (R168). Each tick source has a whole period left (log
entry 26), and IRST_N keeps its levels (R82). -/
def Obligations.PowerOnResetSetsTheBlocks : Prop :=
  ∀ (defsel : BitVec 3) (s : State), ∃ t, exec (.powerOnReset defsel) s = .next t ∧
    (∀ i, (t.port i).state = (if (s.port i).irst = true then .resetting else .active) ∧
      (t.port i).irst = (s.port i).irst ∧ (∀ k, (t.slot i k).state = .free) ∧
      (∀ p, look (t.port i).legQueues p = []) ∧ (t.port i).answers = [] ∧ (t.port i).collision = none ∧
      (t.port i).resQueue = []) ∧
    (∀ p, t.tport p = ⟨.online, none, [], 0, none, .meng⟩) ∧
    t.eng = ⟨.idle, [], none, false, false, 0, 0, 0, none, none, 0, none, 0, 16⟩ ∧
    (∀ m, t.mon m = ⟨.off, 0, 1, 0, .t100u, .both, none, none, none, none⟩) ∧
    t.arrivals = [] ∧ look t.ticks 0 = 100 ∧ look t.ticks 1 = 1000 ∧ look t.ticks 2 = 10000 ∧ look t.ticks 3 = 100000 ∧
    (∀ c, t.isPending c = false ∧ t.routeOf c = .off) ∧ t.irq = false ∧ t.alert = false ∧
    (∀ p, t.trstN p = true) ∧
    t.mgmt = ⟨false, false, 15, 0, 0, Vector.replicate 6 0, Vector.replicate 6 0, Vector.replicate 8 0, 0x10, 1, 0⟩ ∧
    t.pending = s.pending

/-- While RESET_N is asserted every TRST_N is low and both lines are deasserted (R100, R165); the assertion changes
nothing else (log entry 10: the model's choice). -/
def Obligations.ResetNAssertionHoldsTheOutputs : Prop :=
  ∀ s : State, ∃ t, exec .resetNAssertion s = .next t ∧ t = { s with resetAsserted := true } ∧
    (∀ p, t.trstN p = false) ∧ t.irq = false ∧ t.alert = false

/-- The state after reset obeys every law, and so does the state after POWER_ON_RESET at every DEFSEL and every level of
IRST_N. State.reset itself has DEFSEL 0 and IRST_N deasserted (log entry 7: the model's choice). -/
def Obligations.ResetIsLawful : Prop :=
  Lawful State.reset ∧
  ∀ (defsel : BitVec 3) (s : State), ∃ t, exec (.powerOnReset defsel) s = .next t ∧ Lawful t

/-- RESTART (R180): jobs end ABORTED (RESTART) without an event, a MIGRATING descriptor of the active job becomes LIVE,
the engine is ABORTING or IDLE with credits equal to CREDITS (R118), monitors are cleared (R157), every flag but
CMD_DONE is not pending (R166), and ports, routes and configuration words stay. Monitors whose requests are on their
way finish them first (log entry 27: the model's inference); without any nothing comes first. -/
def Obligations.RestartEndsEveryJob : Prop :=
  ∀ s : State, s.mgmt.busy = false → EngineFits s →
    let u := finishAll (fun _ => true) s
    ((∀ m, (s.mon m).ask = none) → u = s) ∧
    ∃ t, exec .restart s = .next t ∧
      t.mgmt = (commandEnded 0x10 (.done []) s).mgmt ∧
      t.eng =
        { u.eng with
          state := if s.eng.outstanding = 0 then .idle else .aborting
          queue := [], active := none, started := false, haltPending := false, lineInFlight := none
          lineStep := none, lineData := none, retryCount := 0, credits := creditsOf s.mgmt.budget } ∧
      (∀ d : DescIdx, t.desc d =
        { u.desc d with
          state := if (s.desc d).state = .migrating then .live else (s.desc d).state
          outcome := if u.eng.jobs.any (fun j => decide (ordIdx j.desc = d)) then .aborted .restart
            else (u.desc d).outcome }) ∧
      (∀ m, t.mon m = ⟨.off, 0, 1, 0, .t100u, .both, none, none, none, none⟩) ∧
      (∀ c, t.isPending c = decide (c = .cmdDone)) ∧ t.evc.route = s.evc.route ∧
      t.tports = s.tports ∧ t.ticks = s.ticks ∧ t.arrivals = s.arrivals ∧ t.resetAsserted = s.resetAsserted ∧
      ∀ i, t.port i =
        match s.eng.active with
        | none => s.port i
        | some j => releasePort (Hold.onDescLine (ordIdx j.desc)) (s.port i)

/-! ## The Region Map -/

/-- STAGE with an ordinary descriptor (R15): refused STATE unless it is FREE or STAGED, then RANGE for a field out of
range; else the whole record is written. The fields are in range exactly when none is out of the range that R14 gives.
-/
def Obligations.StageWritesWhatIsInRange : Prop :=
  (∀ (s : State) (d : Fin 64), s.mgmt.busy = false → paramIndex s.mgmt.param = d.val →
     let x := s.desc (ordIdx d)
     exec .stage s = .next (
       if x.state ≠ .free ∧ x.state ≠ .staged then commandEnded 0x01 (.refused .state) s
       else
         match parseStage s.mgmt.param with
         | none => commandEnded 0x01 (.refused .range) s
         | some (base, size, f) =>
           (commandEnded 0x01 (.done []) s).modDesc (ordIdx d) fun x =>
             ⟨.staged, false, base, size, f.read, f.write, f.mirror, f.perms, x.gen, x.cur, x.prev,
               if x.state = .free then .none else x.outcome⟩)) ∧
  (∀ p : Vector Word 6,
     let p0 := look p 0
     let p5 := look p 5
     parseStage p = none ↔
       (2 ^ 28 ≤ (look p 1).toNat ∨ bits p0 8 8 < 12 ∨ 28 < bits p0 8 8 ∨
         (bits p0 24 2 ≠ 0 ∧ bits p0 24 2 ≠ 2) ∨ bits p0 26 2 = 3 ∨ (bits p0 28 2 ≠ 2 ∧ bits p0 28 2 ≠ 3) ∨
         (bits p0 24 2 = 2 ∧ (3 < bits p5 0 8 ∨ 2 ^ 28 ≤ (look p 2).toNat)) ∨
         (bits p0 26 2 = 2 ∧ (3 < bits p5 8 8 ∨ 2 ^ 28 ≤ (look p 3).toNat)) ∨
         (bits p0 28 2 = 2 ∧ (3 < bits p5 16 8 ∨ 2 ^ 28 ≤ (look p 4).toNat)) ∨
         bits p0 16 2 = 3 ∨ bits p0 18 2 = 3 ∨ bits p0 20 2 = 3 ∨ bits p0 22 2 = 3))

/-- An index above 64 refuses each descriptor command RANGE and changes nothing else (R13). The floor, LIVE as it is,
refuses STAGE, ACTIVATE and RETIRE with STATE (R10). -/
def Obligations.DescriptorCommandsRefuseTheirIndex : Prop :=
  (∀ s : State, s.mgmt.busy = false → 64 < paramIndex s.mgmt.param →
     exec .stage s = .next (commandEnded 0x01 (.refused .range) s) ∧
     exec .activate s = .next (commandEnded 0x02 (.refused .range) s) ∧
     exec .modify s = .next (commandEnded 0x03 (.refused .range) s) ∧
     exec .retire s = .next (commandEnded 0x04 (.refused .range) s) ∧
     exec .readDescriptor s = .next (commandEnded 0x05 (.refused .range) s)) ∧
  (∀ s : State, s.mgmt.busy = false → paramIndex s.mgmt.param = 64 → FloorFixed s →
     exec .stage s = .next (commandEnded 0x01 (.refused .state) s) ∧
     exec .activate s = .next (commandEnded 0x02 (.refused .state) s) ∧
     exec .retire s = .next (commandEnded 0x04 (.refused .state) s))

/-- A refused command leaves every record, transaction and job as it was: only the command's end is new (R13). -/
def Obligations.RefusedCommandChangesNothing : Prop :=
  ∀ (code : BitVec 8) (s t : State) (r : Reason), actionOf code s = (t, some (.refused r)) → t = s

/-- ACTIVATE takes its checks in order: STATE, ALIGN, RANGE, ROUTE, CONFLICT (R16); a descriptor that passes them
becomes LIVE and not switching (R17). -/
def Obligations.ActivateChecksThenMakesLive : Prop :=
  ∀ (s : State) (d : DescIdx), s.mgmt.busy = false → paramIndex s.mgmt.param = d.val →
    let x := s.desc d
    exec .activate s = .next (
      if x.state ≠ .staged then commandEnded 0x02 (.refused .state) s
      else if x.base.toNat % 2 ^ x.size ≠ 0 ∨ ∃ w ∈ x.windows, w.base.toNat % 4096 ≠ 0 then
        commandEnded 0x02 (.refused .align) s
      else if ∃ w ∈ x.windows, 2 ^ 28 < w.base.toNat + 2 ^ x.size then commandEnded 0x02 (.refused .range) s
      else if ∃ m, x.mirror = some m ∧ (x.write.win = none ∨ x.write.win = some m) then
        commandEnded 0x02 (.refused .route) s
      else if ∃ e : Fin 64, ordIdx e ≠ d ∧
          ((s.desc (ordIdx e)).state = .live ∨ (s.desc (ordIdx e)).state = .migrating ∨
            (s.desc (ordIdx e)).state = .draining) ∧
          (s.desc (ordIdx e)).base = x.base ∧ (s.desc (ordIdx e)).size = x.size then
        commandEnded 0x02 (.refused .conflict) s
      else (commandEnded 0x02 (.done []) s).modDesc d fun x => { x with state := .live, switching := false })

/-- MODIFY takes its checks in order: STATE, BUSY, RANGE, ALIGN, RANGE, ROUTE (R18); when all pass it installs the
routes and permissions, and a generation switch starts, which completes at once on a zero current count (R19, R52,
R56). -/
def Obligations.ModifyChecksThenSwitches : Prop :=
  ∀ (s : State) (d : DescIdx), s.mgmt.busy = false → paramIndex s.mgmt.param = d.val →
    let x := s.desc d
    exec .modify s = .next (
      if x.state ≠ .live then commandEnded 0x03 (.refused .state) s
      else if x.switching = true then commandEnded 0x03 (.refused .busy) s
      else
        match parseRoutes s.mgmt.param with
        | none => commandEnded 0x03 (.refused .range) s
        | some f =>
          if ∃ w ∈ routeWindows f.read f.write f.mirror, w.base.toNat % 4096 ≠ 0 then
            commandEnded 0x03 (.refused .align) s
          else if ∃ w ∈ routeWindows f.read f.write f.mirror, 2 ^ 28 < w.base.toNat + 2 ^ x.size then
            commandEnded 0x03 (.refused .range) s
          else if ∃ m, f.mirror = some m ∧ (f.write.win = none ∨ f.write.win = some m) then
            commandEnded 0x03 (.refused .route) s
          else (commandEnded 0x03 (.done []) s).modDesc d fun x =>
            { x with
              read := f.read, write := f.write, mirror := f.mirror, perms := f.perms, gen := x.gen + 1
              switching := decide (x.cur ≠ 0), cur := 0, prev := if x.cur = 0 then x.prev else x.cur })

/-- RETIRE refuses FREE and DRAINING with STATE, and makes a STAGED descriptor FREE without RETIRED (R20, R8). RETIRE of
a LIVE or MIGRATING descriptor (R21, R22): it is DRAINING and not switching, or FREE with RETIRED set when both counts
are zero; the job that is copying it ends ABORTED (RETIRED), and one that waits in STARTING for it takes its start
checks and ends FAILED (STATE) (R110); the transactions held on its switch, and the writes held on a line of it as its
job ends, are released, and no other slot of a port and nothing else of the ports changes; its monitors go OFF (R155),
and no other monitor changes but that one is told of the end of its idle job; nothing else of the map, the Target Ports
or the tick sources changes. Its monitors whose requests are on their way finish them first, as R155 says; without any
nothing comes first. -/
def Obligations.RetireTakesOutOfUse : Prop :=
  (∀ (s : State) (d : Fin 64), s.mgmt.busy = false → paramIndex s.mgmt.param = d.val →
     ((s.desc (ordIdx d)).state = .free ∨ (s.desc (ordIdx d)).state = .draining →
       exec .retire s = .next (commandEnded 0x04 (.refused .state) s)) ∧
     ((s.desc (ordIdx d)).state = .staged →
       exec .retire s = .next ((commandEnded 0x04 (.done []) s).modDesc (ordIdx d) fun x =>
         ⟨.free, false, 0, 12, .fault, .fault, none, Vector.replicate 4 .none, x.gen, 0, 0, x.outcome⟩))) ∧
  (∀ (s : State) (d : Fin 64), s.mgmt.busy = false → paramIndex s.mgmt.param = d.val → EngineFits s →
     (s.desc (ordIdx d)).inUse = true →
     let u := finishMonitorsOn (ordIdx d) s
     let x := u.desc (ordIdx d)
     let jobEnds : Prop := s.eng.active.map Job.desc = some d ∧ (x.state = .migrating ∨ s.eng.state = .starting)
     let onSwitch (p : IPort) : IPort :=
       if x.switching = true then releasePort (Hold.onSwitch (ordIdx d)) p else p
     let onLines (p : IPort) : IPort := releasePort (Hold.onDescLine (ordIdx d)) p
     let told (m : Fin 16) : Prop :=
       jobEnds ∧ ∃ j, s.eng.active = some j ∧ j.origin = .monitorIdle m ∧ (u.mon m).idleJob = some j.id
     ((∀ m, (s.mon m).subject = d → (s.mon m).ask = none) → u = s) ∧
     ∃ (t : State) (o : LastOutcome), exec .retire s = .next t ∧
       t.mgmt = (commandEnded 0x04 (.done []) s).mgmt ∧
       (jobEnds → o = if x.state = .migrating then .aborted .retired else .failed .state 0) ∧
       (¬jobEnds → o = x.outcome) ∧
       t.desc (ordIdx d) =
         (if x.cur = 0 ∧ x.prev = 0 then
           ⟨.free, false, 0, 12, .fault, .fault, none, Vector.replicate 4 .none, x.gen, 0, 0, o⟩
         else { x with state := .draining, switching := false, outcome := o }) ∧
       (∀ e, e ≠ ordIdx d → t.desc e = u.desc e) ∧
       (jobEnds → t.eng = u.eng.afterJob) ∧ (¬jobEnds → t.eng = u.eng) ∧
       (∀ c, t.isPending c = true ↔ u.isPending c = true ∨ c = .cmdDone ∨ (c = .retired ∧ x.cur = 0 ∧ x.prev = 0) ∨
         (jobEnds ∧ c = if x.state = .migrating then .jobAborted else .jobFailed)) ∧
       t.evc.route = s.evc.route ∧
       (x.state = .migrating → ∀ i, t.port i = onSwitch (onLines (s.port i))) ∧
       (x.state ≠ .migrating → jobEnds → ∀ i, t.port i = onLines (onSwitch (s.port i))) ∧
       (¬jobEnds → ∀ i, t.port i = onSwitch (s.port i)) ∧
       (x.switching = true → ∀ i k, (s.slot i k).named (Hold.onSwitch (ordIdx d)) = true →
         (t.slot i k).released = true ∧ k ∈ (t.port i).resQueue) ∧
       (x.state = .migrating → ∀ i k, (s.slot i k).named (Hold.onDescLine (ordIdx d)) = true →
         (t.slot i k).released = true ∧ k ∈ (t.port i).resQueue) ∧
       (∀ m, (u.mon m).subject = d → (u.mon m).state ≠ .off →
         t.mon m = { u.mon m with state := .off, count := 0, idleJob := none }) ∧
       (∀ m, (u.mon m).subject ≠ d ∨ (u.mon m).state = .off →
         (told m → t.mon m = { u.mon m with idleJob := none }) ∧ (¬told m → t.mon m = u.mon m)) ∧
       t.tports = s.tports ∧ t.ticks = s.ticks ∧ t.arrivals = s.arrivals)

/-! ## Resolution -/

/-- The winner is the candidate of the smallest size, which is the only one of its size, and the floor exactly when no
ordinary descriptor is a candidate (R29, R30). -/
def Obligations.WinnerIsTheSmallestCandidate : Prop :=
  ∀ (s : State) (a : Addr), RegionsAligned s → RegionsDistinct s →
    ((∀ d : Fin 64, (s.desc (ordIdx d)).candidate a = false) → winner s a = floorIdx) ∧
    ((∃ d : Fin 64, (s.desc (ordIdx d)).candidate a = true) →
      ∃ d : Fin 64, winner s a = ordIdx d ∧ (s.desc (ordIdx d)).candidate a = true ∧
        ∀ e : Fin 64, (s.desc (ordIdx e)).candidate a = true → e ≠ d →
          (s.desc (ordIdx d)).size < (s.desc (ordIdx e)).size)

/-- The steps of a resolution, in order (R31): switch hold, route, permission, discard, line hold, legs; one leg for a
read, one to three for a write. -/
def Obligations.ResolutionTakesTheStepsInOrder : Prop :=
  ∀ (s : State) (d : DescIdx) (i : Fin 4) (dir : Dir) (a : Addr),
    let x := s.desc d
    let o := resolveOn s d i dir a
    (x.switching = true → o = .heldSwitch) ∧
    (x.switching = false →
      (dir = .read → x.read = .fault → o = .readFault) ∧
      (dir = .write → x.write = .fault → o = .writeFault) ∧
      ((dir = .read ∧ x.read ≠ .fault ∨ dir = .write ∧ x.write ≠ .fault) →
        (look x.perms i = .none ∨ look x.perms i = .read ∧ dir = .write → o = .denied) ∧
        (look x.perms i = .readWrite ∨ look x.perms i = .read ∧ dir = .read →
          (dir = .read → ∃ l, o = .legs [l]) ∧
          (dir = .write →
            (x.write = .discard → o = .discard) ∧
            (x.write ≠ .discard →
              (x.state = .migrating ∧ s.eng.active.isSome = true ∧ s.eng.lineInFlight = some (x.lineOf a) →
                o = .heldLine (x.lineOf a)) ∧
              (¬(x.state = .migrating ∧ s.eng.active.isSome = true ∧ s.eng.lineInFlight = some (x.lineOf a)) →
                ∃ ls, o = .legs ls ∧ 1 ≤ ls.length ∧ ls.length ≤ 3))))))

/-- The legs a resolution forms: the read leg (R35); or the write leg, the mirror leg when there is a mirror, and the
destination leg when the write reaches the source below the cursor (R37, R39), each at its window's base plus the
offset, UNGRANTED. -/
def Obligations.LegsGoToTheirWindows : Prop :=
  ∀ (s : State) (d : DescIdx) (i : Fin 4) (a : Addr) (ls : List Leg),
    let x := s.desc d
    let leg (r : LegRole) (w : Window) : Leg := ⟨r, w.target, w.base + (a - x.base), .ungranted⟩
    (resolveOn s d i .read a = .legs ls → ∃ w, x.read = .window w ∧ ls = [leg .read w]) ∧
    (resolveOn s d i .write a = .legs ls → ∃ w, x.write = .window w ∧
      ((∃ j, s.eng.active = some j ∧ x.state = .migrating ∧
          (x.read = .window w ∨ ∃ m, x.mirror = some m ∧ x.read = .window m) ∧ x.lineOf a < s.eng.cursor ∧
          ls = leg .write w :: (x.mirror.toList.map (leg .mirror) ++ [leg .destination j.dest])) ∨
        (¬(∃ j, s.eng.active = some j ∧ x.state = .migrating ∧
            (x.read = .window w ∨ ∃ m, x.mirror = some m ∧ x.read = .window m) ∧ x.lineOf a < s.eng.cursor) ∧
          ls = leg .write w :: x.mirror.toList.map (leg .mirror))))

/-- Translation keeps the offset and stays in target space: for an address in the region and a window that fits, b +
(A - base) is below 2^28 and has A's place in its 64-byte line (R3, R28). -/
def Obligations.TranslationStaysInTargetSpace : Prop :=
  ∀ (x : Desc) (w : Window) (a : Addr), x.contains a = true → w.fits x.size = true → w.aligned = true →
    12 ≤ x.size → x.base.toNat % 2 ^ x.size = 0 →
    (x.translate w a).toNat = w.base.toNat + (a.toNat - x.base.toNat) ∧
      (x.translate w a).toNat % 64 = a.toNat % 64 ∧ x.lineOf a < x.lineCount

/-- READ DESCRIPTOR ends DONE with the record's words and changes nothing (R23), RESULT1 to RESULT7 in the places of R174.
READ MONITOR (R154): above 15 refused RANGE; any other monitor's record is returned in the places of R177, and nothing
changes. PROBE ends DONE with the outcome that a resolution of its address, initiator and direction would have, in the
places of R175, and changes nothing (R46); an address, initiator or direction out of range refuses it RANGE. QUERY JOB
reports a living job as it stands, in the places of R176, and changes nothing (R116); an ID above 255 is refused RANGE
and one not held NOTFOUND. For a queued job, started and cursor are no and 0, and halt pending is the engine's (log
entry 24). -/
def Obligations.ReadingCommandsReportAndChangeNothing : Prop :=
  (∀ (s : State) (d : DescIdx), s.mgmt.busy = false → paramIndex s.mgmt.param = d.val →
     exec .readDescriptor s = .next (commandEnded 0x05 (.done (descriptorWords d (s.desc d))) s)) ∧
  (∀ s : State, s.mgmt.busy = false →
     let n := bits (look s.mgmt.param 0) 0 8
     (15 < n → exec .readMonitor s = .next (commandEnded 0x0E (.refused .range) s)) ∧
     (∀ m : Fin 16, n = m.val →
       exec .readMonitor s = .next (commandEnded 0x0E (.done (monitorWords (s.mon m))) s))) ∧
  (∀ s : State, s.mgmt.busy = false →
     let p := s.mgmt.param
     (2 ^ 28 ≤ (look p 0).toNat ∨ 3 < bits (look p 1) 0 8 ∨ 1 < bits (look p 1) 8 8 →
       exec .probe s = .next (commandEnded 0x06 (.refused .range) s)) ∧
     (∀ (i : Fin 4) (dir : Dir), (look p 0).toNat < 2 ^ 28 → bits (look p 1) 0 8 = i.val →
       bits (look p 1) 8 8 = (match dir with | .read => 0 | .write => 1) →
       let a : Addr := BitVec.ofNat 28 (look p 0).toNat
       exec .probe s =
         .next (commandEnded 0x06 (.done (probeWords (winner s a) (resolveOn s (winner s a) i dir a))) s))) ∧
  (∀ s : State, s.mgmt.busy = false →
     let n := bits (look s.mgmt.param 0) 0 16
     (255 < n → exec .queryJob s = .next (commandEnded 0x09 (.refused .range) s)) ∧
     (n ≤ 255 → (∀ j ∈ s.eng.jobs, j.id.toNat ≠ n) →
       exec .queryJob s = .next (commandEnded 0x09 (.refused .notFound) s)) ∧
     (∀ pre j post, s.eng.queue = pre ++ j :: post → j.id.toNat = n → (∀ q ∈ pre, q.id.toNat ≠ n) →
       exec .queryJob s = .next (commandEnded 0x09 (.done
         (jobWords j false (pre.length + 1) 0 false s.eng.haltPending 0)) s)) ∧
     (∀ j, s.eng.active = some j → j.id.toNat = n → (∀ q ∈ s.eng.queue, q.id.toNat ≠ n) →
       exec .queryJob s = .next (commandEnded 0x09 (.done
         (jobWords j true 0 (engStateCode s.eng.state) s.eng.started s.eng.haltPending
           (if s.eng.started = true then s.eng.cursor else 0))) s))) ∧
  (∀ (d : DescIdx) (x : Desc), x.size ≤ 28 → x.cur ≤ 32 → x.prev ≤ 32 → ∃ w1 w2 w3 w4 w5 w6 w7,
     descriptorWords d x = [w1, w2, w3, w4, w5, w6, w7] ∧
     bits w1 0 8 = d.val ∧ bits w1 8 8 = x.size ∧
     (∀ i : Fin 4, bits w1 (16 + 2 * i.val) 2 =
       match look x.perms i with | .none => 0 | .read => 1 | .readWrite => 2) ∧
     bits w1 24 2 = (match x.read with | .fault => 0 | .window _ => 2) ∧
     bits w1 26 2 = (match x.write with | .fault => 0 | .discard => 1 | .window _ => 2) ∧
     bits w1 28 2 = (match x.mirror with | some _ => 2 | none => 3) ∧
     bits w1 30 1 = flag x.switching ∧ bits w1 31 1 = 0 ∧
     bits w2 0 28 = x.base.toNat ∧
     bits w2 28 3 = (match x.state with | .free => 0 | .staged => 1 | .live => 2 | .migrating => 3 | .draining => 4) ∧
     bits w2 31 1 = 0 ∧
     (match x.read with
       | .fault => w3 = 0
       | .window w => bits w3 0 28 = w.base.toNat ∧ bits w3 28 2 = w.target.val ∧ bits w3 30 2 = 0) ∧
     (match x.write with
       | .fault => w4 = 0
       | .discard => w4 = 0
       | .window w => bits w4 0 28 = w.base.toNat ∧ bits w4 28 2 = w.target.val ∧ bits w4 30 2 = 0) ∧
     (match x.mirror with
       | none => w5 = 0
       | some w => bits w5 0 28 = w.base.toNat ∧ bits w5 28 2 = w.target.val ∧ bits w5 30 2 = 0) ∧
     bits w6 0 8 = x.gen.toNat ∧ bits w6 8 6 = x.cur ∧ bits w6 14 2 = 0 ∧ bits w6 16 6 = x.prev ∧
     bits w6 22 2 = 0 ∧
     bits w6 24 2 = (match x.outcome with | .none => 0 | .done => 1 | .failed _ _ => 2 | .aborted _ => 3) ∧
     bits w6 26 4 = (match x.outcome with
       | .none => 0 | .done => 0 | .failed .state _ => 1 | .failed .route _ => 2 | .failed .overlap _ => 3
       | .failed .line _ => 4 | .failed .mirror _ => 5 | .aborted .cancelled => 6 | .aborted .retired => 7
       | .aborted .withdrawn => 8 | .aborted .restart => 9 | .failed .range _ => 10) ∧
     bits w6 30 2 = 0 ∧
     (∀ r n, x.outcome = .failed r n → n < 2 ^ 22 → w7.toNat = n) ∧
     ((∀ r n, x.outcome ≠ .failed r n) → w7 = 0)) ∧
  (∀ x : Monitor, x.count ≤ 255 → x.reload ≤ 255 → ∃ w1 w2 w3 w4 w5 w6,
     monitorWords x = [w1, w2, w3, w4, w5, w6] ∧
     bits w1 0 2 = (match x.state with | .off => 0 | .counting => 1 | .idle => 2) ∧ bits w1 2 6 = 0 ∧
     bits w1 8 8 = x.subject.val ∧ bits w1 16 8 = x.count ∧ bits w1 24 8 = x.reload ∧
     bits w2 0 8 = (match x.tickSel with | .t100u => 0 | .t1m => 1 | .t10m => 2 | .t100m => 3) ∧
     bits w2 8 8 = (match x.filter with | .reads => 0 | .writes => 1 | .both => 2) ∧
     bits w2 16 1 = flag x.idleJob.isSome ∧ bits w2 17 7 = 0 ∧
     bits w2 24 8 = (match x.idleJob with | none => 0 | some id => id.toNat) ∧
     (match x.idleT with
       | none => w3 = 0 ∧ w4 = 0
       | some t => w3.toNat = 1 + 256 * t.dest.target.val + 65536 * (match t.mode with | .move => 0 | .shadow => 1) ∧
         w4.toNat = t.dest.base.toNat) ∧
     (match x.wakeT with
       | none => w5 = 0 ∧ w6 = 0
       | some t => w5.toNat = 1 + 256 * t.dest.target.val + 65536 * (match t.mode with | .move => 0 | .shadow => 1) ∧
         w6.toNat = t.dest.base.toNat)) ∧
  (∀ (d : DescIdx) (o : Resolution),
     let ls : List Leg := match o with | .legs ls => ls | _ => []
     ls.length ≤ 3 → ∃ w1 ws, probeWords d o = w1 :: ws ∧
       w1.toNat = d.val + 256 * (match o with
         | .legs _ => 0 | .heldSwitch => 1 | .readFault => 2 | .writeFault => 3 | .denied => 4 | .discard => 5
         | .heldLine _ => 6) + 65536 * ls.length ∧
       ws.length = ls.length ∧
       ∀ (k : Nat) (l : Leg) (w : Word), ls[k]? = some l → ws[k]? = some w →
         bits w 0 28 = l.addr.toNat ∧ bits w 28 2 = l.target.val ∧
           bits w 30 2 = match l.role with | .read => 0 | .write => 1 | .mirror => 2 | .destination => 3) ∧
  (∀ (j : Job) (active started halt : Bool) (position state cursor : Nat), position ≤ 8 → state ≤ 5 → cursor < 2 ^ 23 →
     ∃ w1 w2 w3 w4, jobWords j active position state started halt cursor = [w1, w2, w3, w4] ∧
       w1.toNat = flag active + 16 * position + 256 * state + 4096 * flag started + 8192 * flag halt +
         65536 * j.id.toNat ∧
       w2.toNat = cursor ∧
       w3.toNat = j.desc.val + 256 * j.dest.target.val + 4096 * (match j.mode with | .move => 0 | .shadow => 1) +
         (match j.origin with
           | .software => 0 | .monitorIdle m => 65536 + 16777216 * m.val
           | .monitorWake m => 131072 + 16777216 * m.val) ∧
       w4.toNat = j.dest.base.toNat)

/-- What STAGE writes, READ DESCRIPTOR returns: PARAM0 bits 29:0, the base, and each window that is a target, with
zeros for a route that is none (R174). No bit of the parameter words is dropped or moved. What SET MONITOR writes,
READ MONITOR returns, in the same places (R152, R177). -/
def Obligations.StagedAndMonitorFieldsReadBack : Prop :=
  (∀ (p : Vector Word 6) (d : DescIdx) (x : Desc) (base : Addr) (size : Nat) (f : RouteFields),
     parseStage p = some (base, size, f) → paramIndex p = d.val →
     ∃ w6 w7, descriptorWords d (x.staged base size f) =
       [ look p 0 &&& 0x3FFFFFFF
       , look p 1 ||| 0x10000000
       , if bits (look p 0) 24 2 = 2 then look p 2 ||| place (bits (look p 5) 0 8) 28 else 0
       , if bits (look p 0) 26 2 = 2 then look p 3 ||| place (bits (look p 5) 8 8) 28 else 0
       , if bits (look p 0) 28 2 = 2 then look p 4 ||| place (bits (look p 5) 16 8) 28 else 0
       , w6, w7 ]) ∧
  (∀ (p : Vector Word 6) (d : Fin 64) (f : MonitorFields), parseMonitor p = some f →
     monitorWords (Monitor.bound d f) =
       [ place 1 0 ||| place d.val 8 ||| place (bits (look p 0) 16 16) 16 ||| place (bits (look p 0) 16 16) 24
       , look p 1 &&& 0xFFFF
       , if bits (look p 2) 0 8 = 1 then look p 2 &&& 0xFFFFFF else 0
       , if bits (look p 2) 0 8 = 1 then look p 3 else 0
       , if bits (look p 4) 0 8 = 1 then look p 4 &&& 0xFFFFFF else 0
       , if bits (look p 4) 0 8 = 1 then look p 5 else 0 ])

/-! ## The Initiator Ports -/

/-- A request at a port that is not ready is not looked at; the port is ready with a FREE slot, an empty collision
place and an empty resolution queue in ACTIVE (R67). A request whose tag a slot holds is refused: DECODE-ERR under its
tag in the collision place and at the tail of the answer list, DECODE[i] set, and nothing else (R68). A request whose
tag is not outstanding goes into a FREE slot with the next acceptance position (R69). One of length 0, or that crosses
a 64-byte line, is answered DECODE-ERR there with DECODE[i] set; any other is resolved. -/
def Obligations.RequestIsTakenRefusedOrResolved : Prop :=
  (∀ (i : Fin 4) (r : Request) (s : State),
     (((s.port i).ready = true ↔
       (∃ k, (s.slot i k).state = .free) ∧ (s.port i).collision = none ∧
         (s.port i).resQueue = [] ∧ (s.port i).state = .active)) ∧
     ((s.port i).ready = false → exec (.acceptRequest i r) s = .next s)) ∧
  (∀ (i : Fin 4) (r : Request) (s : State), (s.port i).ready = true →
     (∃ k, (s.slot i k).state ≠ .free ∧ (s.slot i k).tag = r.tag) →
     exec (.acceptRequest i r) s = .next (raise (.decode i) (s.modPort i fun p =>
       { p with collision := some r.tag, answers := p.answers ++ [.collision] }))) ∧
  (∀ (i : Fin 4) (r : Request) (s : State), (s.port i).ready = true →
     (∀ k, (s.slot i k).state ≠ .free → (s.slot i k).tag ≠ r.tag) →
     ∃ k, (s.slot i k).state = .free ∧
       ((r.len = 0 ∨ 64 < r.addr.toNat % 64 + r.len) →
         exec (.acceptRequest i r) s = .next (raise (.decode i) (s.modPort i fun p =>
           { p with
             slots := upd p.slots k
               ⟨.issued, p.nextPos, r.tag, r.dir, r.addr, r.len, r.data, none, false, none, [], none, some .decodeErr⟩
             nextPos := p.nextPos + 1, answers := p.answers ++ [.slot k] }))) ∧
       (¬(r.len = 0 ∨ 64 < r.addr.toNat % 64 + r.len) →
         exec (.acceptRequest i r) s = .next (resolveSlot i k (s.modPort i fun p =>
           { p with
             slots := upd p.slots k
               ⟨.held, p.nextPos, r.tag, r.dir, r.addr, r.len, r.data, none, false, none, [], none, none⟩
             nextPos := p.nextPos + 1 }))))

/-- What a slot becomes at a resolution (R70): HELD by a switch or a line; ISSUED with DONE for a DISCARD write, which
notifies the winner's monitors (R42); ISSUED with DECODE-ERR and DECODE[i] set (R78); or WAITING with its legs,
counted on the winner in its generation (R48), its legs in the leg queues of their targets, its monitors notified. -/
def Obligations.SlotTakesTheOutcome : Prop :=
  ∀ (i : Fin 4) (k : Fin 8) (s : State),
    let sl := s.slot i k
    let d := winner s sl.addr
    let answered (c : RespCode) : State := s.modPort i fun p =>
      { p with
        slots := upd p.slots k { sl with state := .issued, hold := none, released := false, response := some c }
        answers := p.answers ++ [.slot k] }
    resolveSlot i k s =
      match resolveOn s d i sl.dir sl.addr with
      | .heldSwitch =>
        s.modSlot i k fun _ => { sl with state := .held, hold := some (.switch d), released := false }
      | .heldLine n =>
        s.modSlot i k fun _ => { sl with state := .held, hold := some (.line d n), released := false }
      | .readFault => raise (.decode i) (answered .decodeErr)
      | .writeFault => raise (.decode i) (answered .decodeErr)
      | .denied => raise (.decode i) (answered .decodeErr)
      | .discard => notify d .write (answered .done)
      | .legs ls =>
        notify d sl.dir ((s.modPort i fun p =>
          { p with
            slots := upd p.slots k
              { sl with
                state := .waiting, hold := none, released := false, legs := ls
                counted := some ⟨d, (s.desc d).gen, (s.desc d).lineOf sl.addr⟩ }
            legQueues := tabulate fun t =>
              look p.legQueues t ++ (ls.filter fun l => decide (l.target = t)).map fun l => ⟨k, l.role⟩ }).modDesc d
          fun x => { x with cur := x.cur + 1 })

/-- A release (R55, R77): every HELD slot it names, not yet released, is marked and joins its port's resolution queue; a
queue in acceptance order stays in acceptance order; no other slot, nothing else of any port and nothing else of the
part changes. The slot at the head of the resolution queue leaves it and is resolved anew, as the map then stands (R44,
R77); with an empty queue there is nothing to resolve (log entry 5). -/
def Obligations.ReleasedSlotsResolveInAcceptanceOrder : Prop :=
  (∀ (sel : Hold → Bool) (s : State),
     let t := release sel s
     (∀ i k, t.slot i k = if (s.slot i k).named sel = true then { s.slot i k with released := true } else s.slot i k) ∧
     (∀ i k, k ∈ (t.port i).resQueue ↔ k ∈ (s.port i).resQueue ∨ (s.slot i k).named sel = true) ∧
     (∀ i, (s.port i).resQueue.Pairwise (fun j k => (s.slot i j).pos ≤ (s.slot i k).pos) →
       (t.port i).resQueue.Pairwise (fun j k => (t.slot i j).pos ≤ (t.slot i k).pos)) ∧
     (∀ i, t.port i = { s.port i with slots := (t.port i).slots, resQueue := (t.port i).resQueue }) ∧
     { t with ports := s.ports } = s) ∧
  (∀ (i : Fin 4) (s : State),
     (∀ k q, (s.port i).resQueue = k :: q →
       exec (.reResolution i) s = .next (resolveSlot i k (s.modPort i fun p => { p with resQueue := q }))) ∧
     ((s.port i).resQueue = [] → exec (.reResolution i) s = .next s))

/-- An ACTIVE port presents the head of its answer list, one response at a time (R66, R76): a collision response under
its tag with DECODE-ERR; a slot's response under its tag with its code, and with the bytes read for a read answered
DONE and none for any other. When the initiator takes it, it leaves the list: a collision response empties its place; a
slot's response frees the slot and uncounts its transaction. With an empty answer list nothing is presented, and in
RESETTING neither (R79); then there is nothing to take, and nothing changes (log entry 5: the model's choice). -/
def Obligations.ResponseTakenFreesItsPlace : Prop :=
  ∀ (i : Fin 4) (s : State),
    let p := s.port i
    (p.state = .resetting → p.presented = none ∧ exec (.responseTaken i) s = .next s) ∧
    (p.state = .active →
      (∀ rest, p.answers = .collision :: rest →
        (∀ tag, p.collision = some tag → p.presented = some (tag, .decodeErr, [])) ∧
        exec (.responseTaken i) s = .next (s.modPort i fun p => { p with answers := rest, collision := none })) ∧
      (∀ k rest, p.answers = .slot k :: rest →
        let sl := s.slot i k
        (∀ code, sl.response = some code →
          (∀ bytes, code = .done → sl.dir = .read → sl.readData = some bytes →
            p.presented = some (sl.tag, .done, bytes)) ∧
          (code ≠ .done ∨ sl.dir = .write → p.presented = some (sl.tag, code, []))) ∧
        exec (.responseTaken i) s = .next (uncountIf sl.counted
          (s.modPort i fun p => { p with answers := rest, slots := upd p.slots k Slot.blank }))) ∧
      (p.answers = [] → p.presented = none ∧ exec (.responseTaken i) s = .next s))

/-- IRST_N[i] asserted (R79): the port is RESETTING with nothing to answer, to resolve or to issue; HELD slots are
freed; WAITING and ISSUED slots become ORPHANED on their GRANTED legs, losing those not granted, or are freed;
ORPHANED slots stay; and each freed counted transaction is uncounted (R50), in the order of the slots (log entry 17:
the model's choice). IRST_N[i] deasserted (R81): a RESETTING
port with no slot in use is ACTIVE with everything empty; one with orphans stays RESETTING. -/
def Obligations.PortResetFreesOrOrphans : Prop :=
  (∀ (i : Fin 4) (s : State),
     let granted (sl : Slot) : Prop := ∃ l ∈ sl.legs, l.status = .granted
     ∃ (p : IPort) (freed : List (Option Counted)),
       exec (.irstNAssert i) s =
         .next (freed.foldl (fun s c => uncountIf c s) (s.modPort i fun _ => p)) ∧
       p.state = .resetting ∧ p.irst = true ∧ p.answers = [] ∧ p.collision = none ∧ p.resQueue = [] ∧
       (∀ t, look p.legQueues t = []) ∧ p.nextPos = (s.port i).nextPos ∧
       (∀ k,
         let sl := s.slot i k
         (sl.state = .free ∨ sl.state = .orphaned → look p.slots k = sl) ∧
         (sl.state = .held → look p.slots k = Slot.blank) ∧
         (sl.state = .waiting ∨ sl.state = .issued →
           (granted sl → (look p.slots k).state = .orphaned ∧ (look p.slots k).counted = sl.counted ∧
             (sl.state = .issued → look p.slots k = { sl with state := .orphaned }) ∧
             (sl.state = .waiting → look p.slots k =
               { sl with state := .orphaned, legs := sl.legs.filter fun l => decide (l.status ≠ .ungranted) })) ∧
           (¬granted sl → look p.slots k = Slot.blank))) ∧
       freed = (List.finRange 8).map fun k =>
         let sl := s.slot i k
         if (sl.state = .waiting ∨ sl.state = .issued) ∧ sl.legs.all (fun l => decide (l.status ≠ .granted)) = true then
           sl.counted
         else none) ∧
  (∀ (i : Fin 4) (s : State),
     exec (.irstNDeassert i) s = .next (s.modPort i fun p =>
       if p.state = .resetting ∧ ∀ k, (look p.slots k).state = .free then
         ⟨.active, false, p.slots, 0, Vector.replicate 4 [], [], none, []⟩
       else { p with irst := false }))

/-- A leg's result (R74, R75, R80): its status is recorded, and the data of a READ leg that ends OK in a slot that is
no orphan; while another leg is unfinished nothing more happens; the last result of an ISSUED slot forms its response,
DONE or TARGET-ERR, at the tail of the answer list, and that of an ORPHANED slot frees it and uncounts it. -/
def Obligations.LegResultFinishesTheSlot : Prop :=
  ∀ (i : Fin 4) (k : Fin 8) (r : LegRole) (code : TargetCode) (data : List Byte) (s : State),
    r ≠ .destination ∨ code = .ok →
    let sl := s.slot i k
    let done : Slot :=
      { sl with
        legs := sl.legs.map fun l =>
          if l.role = r then { l with status := if code = .ok then .ok else .error } else l
        readData := if r = .read ∧ code = .ok ∧ sl.state ≠ .orphaned then some data else sl.readData }
    let s1 := s.modSlot i k fun _ => done
    (¬(∀ l ∈ done.legs, l.status = .ok ∨ l.status = .error) → legResult i k r code data s = s1) ∧
    ((∀ l ∈ done.legs, l.status = .ok ∨ l.status = .error) →
      (sl.state = .issued →
        legResult i k r code data s = s.modPort i fun p =>
          { p with
            slots := upd p.slots k
              { done with
                response := some (if ∃ l ∈ done.legs, l.status = .error then .targetErr else .done) }
            answers := p.answers ++ [.slot k] }) ∧
      (sl.state = .orphaned →
        legResult i k r code data s =
          uncountIf sl.counted (s.modPort i fun p =>
            let q := { p with slots := upd p.slots k Slot.blank }
            if p.state = .resetting ∧ p.irst = false ∧ ∀ n, (look q.slots n).state = .free then
              ⟨.active, false, q.slots, 0, Vector.replicate 4 [], [], none, []⟩
            else q)))

/-! ## Counts, switches and drains -/

/-- An uncount lowers the current count when the counted generation is the descriptor's, the previous count when it is
not, and does no more unless it completes a switch or ends a drain (R49). The decrement that leaves a DRAINING
descriptor with both counts zero makes it FREE with the values of R8 but for generation and last outcome, and sets
RETIRED (R60). -/
def Obligations.UncountLowersACountOrEndsADrain : Prop :=
  (∀ (c : Counted) (s : State),
     let x := s.desc c.index
     let y : Desc := if c.gen = x.gen then { x with cur := x.cur - 1 } else { x with prev := x.prev - 1 }
     ¬(c.gen ≠ x.gen ∧ x.switching = true ∧ y.prev = 0) →
     ¬(x.state = .draining ∧ y.cur = 0 ∧ y.prev = 0) →
     uncount c s = s.modDesc c.index fun _ => y) ∧
  (∀ (c : Counted) (s : State),
     let x := s.desc c.index
     x.state = .draining → x.switching = false →
     (c.gen = x.gen ∧ x.cur = 1 ∧ x.prev = 0 ∨ c.gen ≠ x.gen ∧ x.cur = 0 ∧ x.prev = 1) →
     uncount c s = raise .retired (s.modDesc c.index fun _ =>
       ⟨.free, false, 0, 12, .fault, .fault, none, Vector.replicate 4 .none, x.gen, 0, 0, x.outcome⟩))

/-- The decrement that brings the previous count of a switching descriptor to zero completes the switch (R54): switching
clears, SWITCHED is set, a MIGRATING descriptor is LIVE and its job ends DONE with JOB_DONE, and every transaction held
on the descriptor is released. A job that waits in STARTING for the switch takes its start checks and starts at that
moment when they pass, or ends FAILED with JOB_FAILED when one fails (R110, R117). No slot of a port changes but those
held on the switch, and those held on a line of the descriptor as a job ends; nothing else of the ports, and no other
record of the map, changes. -/
def Obligations.LastOldTransactionCompletesTheSwitch : Prop :=
  ∀ (c : Counted) (s : State),
    let d := c.index
    let x := s.desc d
    EngineFits s → SwitchesWait s → c.gen ≠ x.gen → x.switching = true → x.prev = 1 →
    let t := uncount c s
    let y : Desc := { x with switching := false, prev := 0 }
    let waits (j : Job) : Prop := s.eng.active = some j ∧ s.eng.state = .starting ∧ ordIdx j.desc = d
    let onSwitch (p : IPort) : IPort := releasePort (Hold.onSwitch d) p
    let onLines (p : IPort) : IPort := releasePort (Hold.onDescLine d) p
    t.isPending .switched = true ∧
    (x.state = .migrating → t.desc d = { y with state := .live, outcome := .done } ∧ t.eng = s.eng.afterJob ∧
      (∀ e, t.isPending e = (s.isPending e || decide (e = .switched) || decide (e = .jobDone))) ∧
      ∀ i, t.port i = onSwitch (onLines (s.port i))) ∧
    (x.state ≠ .migrating → y.state = .live ∧
      ((∀ j, ¬waits j) → t.desc d = y ∧ t.eng = s.eng ∧
        (∀ e, t.isPending e = (s.isPending e || decide (e = .switched))) ∧
        ∀ i, t.port i = onSwitch (s.port i)) ∧
      ∀ j, waits j →
        (startVerdict y j = .pass → t.desc d = { y with state := .migrating } ∧
          t.eng = { s.eng with
            started := true, cursor := 0, lineInFlight := none, lineStep := none, lineData := none, retryCount := 0
            state := .copying } ∧
          (∀ e, t.isPending e = (s.isPending e || decide (e = .switched))) ∧
          ∀ i, t.port i = onSwitch (s.port i)) ∧
        (∀ r, startVerdict y j = .fail r → t.desc d = { y with outcome := .failed r 0 } ∧ t.eng = s.eng.afterJob ∧
          (∀ e, t.isPending e = (s.isPending e || decide (e = .switched) || decide (e = .jobFailed))) ∧
          ∀ i, t.port i = onLines (onSwitch (s.port i))) ∧
        startVerdict y j ≠ .wait) ∧
    (∀ i k, (s.slot i k).named (Hold.onSwitch d) = true →
      (t.slot i k).released = true ∧ k ∈ (t.port i).resQueue) ∧
    (∀ e, e ≠ d → t.desc e = s.desc e) ∧ t.evc.route = s.evc.route ∧ SameSurround s t

/-! ## The Target Ports -/

/-- The arbiter looks at the five requesters in the circular order IP0, IP1, IP2, IP3, MENG from the one after the last
granted, each once, and at the last granted last (R88, R89). A grant (R89): with nobody presenting, or a full queue in
ONLINE, nothing (log entry 5: the model's choice); else the first presenting requester in turn. An Initiator Port's head
leg leaves its leg queue and is GRANTED, and the slot is ISSUED when it was the last; the engine's request is outstanding
(R125, R126). In ONLINE the request takes the next number and the tail of the queue, and loads the timer of an empty one
(R84, R92); in OFFLINE its owner has ERROR at once and TARGET[t] is set (R97). -/
def Obligations.GrantServesTheNextRequester : Prop :=
  (Requester.turnAfter (.ip 0) = [.ip 1, .ip 2, .ip 3, .meng, .ip 0] ∧
     Requester.turnAfter (.ip 1) = [.ip 2, .ip 3, .meng, .ip 0, .ip 1] ∧
     Requester.turnAfter (.ip 2) = [.ip 3, .meng, .ip 0, .ip 1, .ip 2] ∧
     Requester.turnAfter (.ip 3) = [.meng, .ip 0, .ip 1, .ip 2, .ip 3] ∧
     Requester.turnAfter .meng = [.ip 0, .ip 1, .ip 2, .ip 3, .meng]) ∧
  (∀ (t : Fin 4) (s : State),
     (∀ i, presents s t (.ip i) = true ↔ look (s.port i).legQueues t ≠ []) ∧
     (presents s t .meng = true ↔ ∃ b, mengRequest s t = some b)) ∧
  (∀ (t : Fin 4) (s : State),
     let tp := s.tport t
     let timer : Option Nat :=
       if tp.queue ≠ [] then tp.timer
       else if timeoutOf s.mgmt.tgtTimeout t = 0 then none else some (10 * timeoutOf s.mgmt.tgtTimeout t)
     let took (r : Requester) (b : ReqBody) (o : Owner) (v : State) : State :=
       if tp.state = .online then v.modTPort t fun p =>
         { p with
           lastGranted := r, queue := p.queue ++ [⟨b, p.nextNum, o, false⟩], nextNum := p.nextNum + 1, timer := timer }
       else ownerResult o .error [] (raise (.target t) (v.modTPort t fun p => { p with lastGranted := r }))
     (tp.state = .online ∧ 16 ≤ tp.queue.length ∨ tp.lastGranted.turnAfter.find? (presents s t) = none →
       exec (.arbiterGrant t) s = .next s) ∧
     (tp.state = .offline ∨ tp.queue.length < 16 →
       (∀ i ref rest l, tp.lastGranted.turnAfter.find? (presents s t) = some (.ip i) →
         look (s.port i).legQueues t = ref :: rest →
         (s.slot i ref.slot).legs.find? (fun l => decide (l.role = ref.role)) = some l →
         exec (.arbiterGrant t) s = .next (took (.ip i)
           ⟨(s.slot i ref.slot).dir, l.addr, (s.slot i ref.slot).len, (s.slot i ref.slot).data⟩
           (.leg i ref.slot ref.role)
           (s.modPort i fun p =>
             { p with
               legQueues := upd p.legQueues t rest
               slots := upd p.slots ref.slot
                 { s.slot i ref.slot with
                   legs := setLegStatus ref.role .granted (s.slot i ref.slot).legs
                   state :=
                     if ∃ l ∈ setLegStatus ref.role .granted (s.slot i ref.slot).legs, l.status = .ungranted then
                       (s.slot i ref.slot).state
                     else .issued } }))) ∧
       (∀ b, tp.lastGranted.turnAfter.find? (presents s t) = some .meng → mengRequest s t = some b →
         exec (.arbiterGrant t) s = .next (took .meng b .meng (s.modEng fun g =>
           { g with
             outstanding := g.outstanding + 1
             lineData := if g.lineStep = some .destWrite then none else g.lineData })))))

/-- The target takes the oldest request it has not yet taken, which the port presents (R85); nothing else changes. With
no request presented there is nothing to take (log entry 5: the model's choice). -/
def Obligations.TargetTakesInQueueOrder : Prop :=
  ∀ (t : Fin 4) (s : State),
    (∀ pre r post, (s.tport t).queue = pre ++ r :: post → (∀ q ∈ pre, q.taken = true) → r.taken = false →
      (s.tport t).presentedRequest = some r ∧
      exec (.targetRequestTaken t) s = .next (s.modTPort t fun p =>
        { p with queue := pre ++ { r with taken := true } :: post })) ∧
    ((∀ r ∈ (s.tport t).queue, r.taken = true) →
      (s.tport t).presentedRequest = none ∧ exec (.targetRequestTaken t) s = .next s)

/-- A response in ONLINE with the number of the oldest request (R86, R87, R92): the request leaves the queue, the timer
is loaded again or stopped, TARGET[t] is set for ERROR, and the result goes to the owner: the leg of a slot takes it as
its result (R74), the engine as that of its copy request (R125). -/
def Obligations.MatchingResponseGoesToItsOwner : Prop :=
  (∀ (t : Fin 4) (code : TargetCode) (data : List Byte) (s : State) (r : TReq) (rest : List TReq),
     (s.tport t).state = .online → (s.tport t).queue = r :: rest →
     let s1 := s.modTPort t fun p =>
       { p with
         queue := rest
         timer :=
           if rest = [] ∨ timeoutOf s.mgmt.tgtTimeout t = 0 then none
           else some (10 * timeoutOf s.mgmt.tgtTimeout t) }
     exec (.targetResponse t r.num code data) s =
       .next (ownerResult r.owner code data (if code = .error then raise (.target t) s1 else s1))) ∧
  (∀ (code : TargetCode) (data : List Byte) (s : State),
     (∀ i k r, ownerResult (.leg i k r) code data s = legResult i k r code data s) ∧
     ownerResult .meng code data s = copyResult code data s)

/-- A response in ONLINE to an empty queue, or with another number than the oldest request's, puts the port OFFLINE
(R95, R96); so does the expiry of a running timer (R93). The queue empties, the timer stops, TARGET[t] and OFFLINE[t]
are set, the next number stays, and the requests are failed to their owners, oldest first. In OFFLINE a response is
discarded (R97). -/
def Obligations.ProtocolErrorAndExpiryGoOffline : Prop :=
  ∀ (t : Fin 4) (s : State),
    let p := s.tport t
    let gone : State := p.queue.foldl (fun v r => ownerResult r.owner .error [] v)
      (raise (.offline t) (raise (.target t)
        (s.modTPort t fun p => { p with state := .offline, queue := [], timer := none })))
    (p.state = .online → ∀ num code data, (∀ r rest, p.queue = r :: rest → r.num ≠ num) →
      exec (.targetResponse t num code data) s = .next gone) ∧
    (p.state = .online → p.timer.isSome = true → exec (.responseTimerExpiry t) s = .next gone) ∧
    (p.state = .offline → ∀ num code data, exec (.targetResponse t num code data) s = .next s) ∧
    (gone.tport t) = { p with state := .offline, queue := [], timer := none } ∧
    gone.isPending (.target t) = true ∧ gone.isPending (.offline t) = true

/-- A write of TGT_TIMEOUT (R94): a port whose field keeps its value keeps its timer; a running timer is loaded with
the new value or stopped at 0; a stopped one is loaded when the port is ONLINE with a non-empty queue and the value is
not 0. -/
def Obligations.TimeoutWriteActsAtOnce : Prop :=
  ∀ (v : Word) (s : State), TargetPortsFit s →
    ∃ t, exec (.tgtTimeoutWrite v) s = .next t ∧
      (∀ p, t.tport p =
        if timeoutOf v p = timeoutOf s.mgmt.tgtTimeout p then s.tport p
        else if (s.tport p).queue = [] then { s.tport p with timer := none }
        else if timeoutOf v p = 0 then { s.tport p with timer := none }
        else { s.tport p with timer := some (10 * timeoutOf v p) }) ∧
      { t with tports := s.tports } = { s with mgmt := { s.mgmt with tgtTimeout := v } }

/-- RESTORE TARGET (R98): above 3 refused RANGE, ONLINE refused STATE; else the port is restoring for 16 microseconds
with TRST_N low, and the command stays in progress. The end of the restore interval (R99): TRST_N high, not restoring,
ONLINE with an empty queue, the timer stopped and the next number 0, last granted as it was; the command ends DONE. -/
def Obligations.RestoreBringsThePortOnline : Prop :=
  (∀ s : State, s.mgmt.busy = false →
     (3 < bits (look s.mgmt.param 0) 0 8 →
       exec .restoreTarget s = .next (commandEnded 0x0F (.refused .range) s)) ∧
     (∀ t : Fin 4, bits (look s.mgmt.param 0) 0 8 = t.val →
       ((s.tport t).state = .online →
         exec .restoreTarget s = .next (commandEnded 0x0F (.refused .state) s)) ∧
       ((s.tport t).state = .offline → ∃ u, exec .restoreTarget s = .next u ∧
         u = ((latchCommand 0x0F s).modTPort t fun p => { p with restoring := some 16 }) ∧
         u.mgmt.busy = true ∧ u.trstN t = false))) ∧
  (∀ (t : Fin 4) (s : State), (s.tport t).restoring.isSome = true → s.resetAsserted = false →
     ∃ u, exec (.restoreEnd t) s = .next u ∧
       u.tport t = ⟨.online, none, [], 0, none, (s.tport t).lastGranted⟩ ∧ u.trstN t = true ∧
       u = endCommand (.done []) (s.modTPort t fun _ => u.tport t) ∧ u.mgmt.busy = false ∧
       u.isPending .cmdDone = true)

/-! ## The Migration Engine -/

/-- An IDLE engine with no halt pending takes the head of the queue as its active job, in STARTING, and takes the
start checks at once: a job that fails one ends there (R109, R110). A job that passes them, or waits, is in STARTING
and nothing else changes: that the start of a job that passes is an event of its own, JOB_START, next after JOB_ACTIVATE
in no time and not within it, is the model's inference (log entry 1). The start checks in order (R110): STATE, the wait
for a switch, ROUTE, OVERLAP, RANGE. -/
def Obligations.HeadJobTakesItsStartChecks : Prop :=
  (∀ (s : State) (j : Job) (rest : List Job), s.eng.queue = j :: rest → s.eng.state = .idle →
     s.eng.haltPending = false →
     let s1 := s.modEng fun g => { g with queue := rest, active := some j, started := false, state := .starting }
     (∀ r, startVerdict (s.desc (ordIdx j.desc)) j = .fail r →
       exec .jobActivate s = .next (endActive (.failed r 0) s1)) ∧
     ((∀ r, startVerdict (s.desc (ordIdx j.desc)) j ≠ .fail r) → exec .jobActivate s = .next s1)) ∧
  (∀ (x : Desc) (j : Job),
     let v := startVerdict x j
     (x.state ≠ .live → v = .fail .state) ∧
     (x.state = .live → x.switching = true → v = .wait) ∧
     (x.state = .live → x.switching = false →
       (x.read = .fault → v = .fail .route) ∧
       (x.read ≠ .fault →
         ((∃ w ∈ x.windows, w.target = j.dest.target ∧ w.base.toNat < j.dest.base.toNat + 2 ^ x.size ∧
             j.dest.base.toNat < w.base.toNat + 2 ^ x.size) → v = .fail .overlap) ∧
         ((∀ w ∈ x.windows, w.target = j.dest.target → ¬(w.base.toNat < j.dest.base.toNat + 2 ^ x.size ∧
             j.dest.base.toNat < w.base.toNat + 2 ^ x.size)) →
           (2 ^ 28 < j.dest.base.toNat + 2 ^ x.size → v = .fail .range) ∧
           (j.dest.base.toNat + 2 ^ x.size ≤ 2 ^ 28 → v = .pass)))))

/-- A job in STARTING that passes the checks starts in one step (R110): its descriptor is MIGRATING, started is yes,
the cursor is 0 with no line in flight and no retry, the engine is COPYING; nothing else changes. One that fails a check
ends FAILED, and one whose descriptor is switching waits (R110). With no job in STARTING nothing can start (log entry 5:
the model's choice). -/
def Obligations.PassingJobStarts : Prop :=
  ∀ s : State,
    (∀ j, s.eng.active = some j → s.eng.state = .starting →
      let d := ordIdx j.desc
      (startVerdict (s.desc d) j = .pass → exec .jobStart s = .next { s with
        map := upd s.map d { s.desc d with state := .migrating }
        eng := { s.eng with
          started := true, cursor := 0, lineInFlight := none, lineStep := none, lineData := none, retryCount := 0
          state := .copying } }) ∧
      (∀ r, startVerdict (s.desc d) j = .fail r → exec .jobStart s = .next (endActive (.failed r 0) s)) ∧
      (startVerdict (s.desc d) j = .wait → exec .jobStart s = .next s)) ∧
    (s.eng.active = none ∨ s.eng.state ≠ .starting → exec .jobStart s = .next s)

/-- The line at the cursor begins when the engine is COPYING with no halt pending and no line in flight, the cursor is
below the line count, CREDITS is 0 or a credit is held, and no WAITING write is counted on the line (R123); a retry
when its line waits for one and a credit condition holds (R134). The beginning consumes a credit unless CREDITS is 0,
puts the line in flight and presents the source read (R125); without these conditions nothing happens. The copy
requests of a line (R122): the source read at the read window plus cursor times 64, and the destination write at the
destination plus cursor times 64 with the line data, each of 64 bytes, presented to its own target's port alone while
it is not outstanding. -/
def Obligations.LineBeginsUnderItsConditions : Prop :=
  (∀ s : State,
     let credit : Prop := creditsOf s.mgmt.budget = 0 ∨ 1 ≤ s.eng.credits
     let ready : Prop := ∃ j, s.eng.active = some j ∧ s.eng.state = .copying ∧ s.eng.haltPending = false ∧
       s.eng.lineInFlight = none ∧ s.eng.cursor < 2 ^ ((s.desc (ordIdx j.desc)).size - 6) ∧ credit ∧
       ¬∃ i k c, (s.slot i k).state = .waiting ∧ (s.slot i k).dir = .write ∧ (s.slot i k).counted = some c ∧
         c.index = ordIdx j.desc ∧ c.line = s.eng.cursor
     let retry : Prop := s.eng.state = .copying ∧ s.eng.lineInFlight.isSome = true ∧
       s.eng.lineStep = some .retryWait ∧ credit
     (ready ∨ retry → exec .lineBegin s = .next { s with eng := { s.eng with
       credits := if creditsOf s.mgmt.budget = 0 then s.eng.credits else s.eng.credits - 1
       lineInFlight := some s.eng.cursor, lineStep := some .sourceRead } }) ∧
     (¬ready → ¬retry → exec .lineBegin s = .next s)) ∧
  (∀ (s : State) (j : Job) (w : Window) (t : Fin 4), s.eng.active = some j →
     (s.desc (ordIdx j.desc)).read = .window w →
     (s.eng.lineStep = some .sourceRead → mengRequest s t =
       if s.eng.outstanding = 0 ∧ w.target = t then
         some ⟨.read, w.base + BitVec.ofNat 28 (s.eng.cursor * 64), 64, []⟩
       else none) ∧
     (∀ bytes, s.eng.lineStep = some .destWrite → s.eng.lineData = some bytes → mengRequest s t =
       if s.eng.outstanding = 0 ∧ j.dest.target = t then
         some ⟨.write, j.dest.base + BitVec.ofNat 28 (s.eng.cursor * 64), 64, bytes⟩
       else none) ∧
     (s.eng.lineStep = some .retryWait ∨ s.eng.lineStep = none → mengRequest s t = none))

/-- A source read that ends OK: its bytes are the line data and the destination write is presented (R126). An ERROR:
below the limit a retry waits, at the limit the job ends FAILED (LINE) (R134). In ABORTING a result only lowers the
number outstanding, and the last ends ABORTING (R112). A destination write that ends OK completes the line (R127,
R129): the cursor advances, the line is cleared, the writes held on it are released; then a pending halt is taken, or
at the line count CUTOVER is entered. -/
def Obligations.CopyResultsCompleteOrRetryTheLine : Prop :=
  (∀ (s : State) (data : List Byte),
     let s1 := s.modEng fun g => { g with outstanding := g.outstanding - 1 }
     (s.eng.state ≠ .aborting → s.eng.lineStep = some .sourceRead →
       copyResult .ok data s = s.modEng fun g =>
         { g with outstanding := g.outstanding - 1, lineData := some data, lineStep := some .destWrite }) ∧
     (∀ l, s.eng.state ≠ .aborting → s.eng.lineInFlight = some l →
       s.eng.lineStep = some .sourceRead ∨ s.eng.lineStep = some .destWrite →
       (s.eng.retryCount < bits s.mgmt.retry 0 2 →
         copyResult .error data s = s.modEng fun g =>
           { g with
             outstanding := g.outstanding - 1, retryCount := g.retryCount + 1, lineData := none
             lineStep := some .retryWait }) ∧
       (bits s.mgmt.retry 0 2 ≤ s.eng.retryCount →
         copyResult .error data s = endActive (.failed .line l) s1)) ∧
     (∀ code, s.eng.state = .aborting →
       copyResult code data s = s.modEng fun g =>
         if 1 < g.outstanding then { g with outstanding := g.outstanding - 1 }
         else if g.haltPending = true then { g with outstanding := 0, state := .halted, haltPending := false }
         else { g with outstanding := 0, state := .idle })) ∧
  (∀ (s : State) (data : List Byte) (j : Job) (l : Nat), s.eng.state = .copying → s.eng.active = some j →
     s.eng.lineInFlight = some l → s.eng.lineStep = some .destWrite →
     let d := ordIdx j.desc
     let s1 := release (Hold.onLine d l) { s with eng := { s.eng with
       outstanding := s.eng.outstanding - 1, cursor := s.eng.cursor + 1, lineInFlight := none, lineStep := none
       lineData := none, retryCount := 0 } }
     copyResult .ok data s =
       if s.eng.haltPending = true then { s1 with eng := { s1.eng with state := .halted, haltPending := false } }
       else if s.eng.cursor + 1 = 2 ^ ((s.desc d).size - 6) then enterCutover s1
       else s1)

/-- Cutover (R139, R140): the routes of the mode are installed and the generation rises. With a non-zero current count
the descriptor is switching on it and the engine is in CUTOVER; with a zero count the descriptor is LIVE at once, and
the job ends DONE without SWITCHED. -/
def Obligations.CutoverInstallsTheDestination : Prop :=
  ∀ (s : State) (j : Job), s.eng.active = some j → s.eng.started = true → EngineFits s →
    (s.desc (ordIdx j.desc)).switching = false →
    let d := ordIdx j.desc
    let x := s.desc d
    let t := enterCutover s
    (t.desc d).read = .window j.dest ∧
    (t.desc d).write = (match j.mode with | .move => .window j.dest | .shadow => x.write) ∧
    (t.desc d).mirror =
      (match j.mode, x.write with | .shadow, .window _ => some j.dest | _, _ => none) ∧
    (t.desc d).perms = x.perms ∧ (t.desc d).base = x.base ∧ (t.desc d).size = x.size ∧
    (t.desc d).gen = x.gen + 1 ∧ (∀ e, e ≠ d → t.desc e = s.desc e) ∧ SameSurround s t ∧
    (x.cur ≠ 0 → (t.desc d).state = .migrating ∧ (t.desc d).switching = true ∧ (t.desc d).prev = x.cur ∧
      (t.desc d).cur = 0 ∧ t.eng = { s.eng with state := .cutover } ∧ t.ports = s.ports ∧ t.evc = s.evc) ∧
    (x.cur = 0 → (t.desc d).state = .live ∧ (t.desc d).switching = false ∧ (t.desc d).outcome = .done ∧
      t.eng = ({ s.eng with state := .cutover } : Engine).afterJob ∧ t.isPending .jobDone = true ∧
      t.isPending .switched = s.isPending .switched)

/-- The end of an active job (R111): its outcome is in its descriptor, a MIGRATING descriptor of a started job is
LIVE, its event is set, the writes held on its lines are released, and the engine is ABORTING while a copy request is
outstanding, else HALTED if it was halted or a halt was pending, else IDLE; its origin's monitor forgets it (R151). -/
def Obligations.JobEndWritesItsOutcome : Prop :=
  ∀ (s : State) (j : Job) (e : Ending), s.eng.active = some j →
    let d := ordIdx j.desc
    let t := endActive e s
    t.desc d =
      { s.desc d with
        outcome := e.outcome
        state := if s.eng.started = true ∧ (s.desc d).state = .migrating then .live else (s.desc d).state } ∧
    (∀ c, c ≠ d → t.desc c = s.desc c) ∧
    (∀ c, t.isPending c = (s.isPending c || decide (c = e.event))) ∧ t.evc.route = s.evc.route ∧
    (∀ i, t.port i = releasePort (Hold.onDescLine d) (s.port i)) ∧
    t.eng =
      { s.eng with
        active := none, started := false, lineInFlight := none, lineStep := none, lineData := none, retryCount := 0
        state :=
          if s.eng.outstanding ≠ 0 then .aborting
          else if s.eng.state = .halted ∨ s.eng.haltPending = true then .halted else .idle
        haltPending := if s.eng.outstanding ≠ 0 then s.eng.haltPending else false } ∧
    (∀ m, t.mon m =
      if j.origin = .monitorIdle m ∧ (s.mon m).idleJob = some j.id then { s.mon m with idleJob := none }
      else s.mon m) ∧
    SameSurround s t ∧ t.freeDraws = s.freeDraws

/-- A failed DESTINATION leg is recorded like any result and reported (R74); the report ends a started job of the counted
descriptor, COPYING or HALTED, whose destination window holds the leg's address, FAILED (MIRROR) with the transaction's
line, and is ignored otherwise (R136). Then the slot goes on as at any result: while a leg is unfinished nothing more;
after the last an ISSUED slot answers TARGET-ERR, as any with a leg in ERROR, and an ORPHANED one is freed and uncounted
(R75, R80). -/
def Obligations.MirrorFailureEndsTheJob : Prop :=
  (∀ (i : Fin 4) (k : Fin 8) (data : List Byte) (s : State) (c : Counted) (l : Leg),
     (s.slot i k).counted = some c →
     (setLegStatus .destination .error (s.slot i k).legs).find? (fun l => decide (l.role = .destination)) = some l →
     let s1 := s.modSlot i k fun sl => { sl with legs := setLegStatus .destination .error sl.legs }
     (∀ j, s.eng.active = some j → ordIdx j.desc = c.index → s.eng.started = true →
       s.eng.state = .copying ∨ s.eng.state = .halted → j.dest.target = l.target →
       j.dest.base.toNat ≤ l.addr.toNat → l.addr.toNat < j.dest.base.toNat + 2 ^ (s.desc c.index).size →
       legResult i k .destination .error data s = finishSlot i k (endActive (.failed .mirror c.line) s1)) ∧
     ((∀ j, s.eng.active = some j → ¬(ordIdx j.desc = c.index ∧ s.eng.started = true ∧
         (s.eng.state = .copying ∨ s.eng.state = .halted) ∧ j.dest.target = l.target ∧
         j.dest.base.toNat ≤ l.addr.toNat ∧ l.addr.toNat < j.dest.base.toNat + 2 ^ (s.desc c.index).size)) →
       legResult i k .destination .error data s = finishSlot i k s1)) ∧
  (∀ (i : Fin 4) (k : Fin 8) (s : State),
     let sl := s.slot i k
     (¬(∀ l ∈ sl.legs, l.status = .ok ∨ l.status = .error) → finishSlot i k s = s) ∧
     ((∀ l ∈ sl.legs, l.status = .ok ∨ l.status = .error) →
       (sl.state = .issued → finishSlot i k s = s.modPort i fun p =>
         { p with
           slots := upd p.slots k
             { sl with response := some (if ∃ l ∈ sl.legs, l.status = .error then .targetErr else .done) }
           answers := p.answers ++ [.slot k] }) ∧
       (sl.state = .orphaned → finishSlot i k s =
         uncountIf sl.counted (s.modPort i fun p =>
           let q := { p with slots := upd p.slots k Slot.blank }
           if p.state = .resetting ∧ p.irst = false ∧ ∀ n, (look q.slots n).state = .free then
             ⟨.active, false, q.slots, 0, Vector.replicate 4 [], [], none, []⟩
           else q)) ∧
       (sl.state = .free ∨ sl.state = .held ∨ sl.state = .waiting → finishSlot i k s = s)))

/-- QUEUE MIGRATION takes its checks in order (R105): RANGE, STATE, FULL, DUPLICATE, ROUTE, ALIGN, RANGE, OVERLAP; a
request that passes forms a job of origin SOFTWARE and returns its ID. The job joins the tail of the queue, or, where the
engine is IDLE with no halt pending and the queue is empty, becomes active at once (R109): it waits in STARTING when its
descriptor is switching, and starts at that moment when it is not (R110). The ID of a new
job is the first, from the next job ID on and wrapping, that no living job holds (R103). -/
def Obligations.QueueMigrationChecksThenQueues : Prop :=
  (∀ s : State, s.mgmt.busy = false →
     let p := s.mgmt.param
     (64 < paramIndex p ∨ 3 < bits (look p 0) 8 8 ∨ 2 ^ 28 ≤ (look p 1).toNat ∨ 1 < bits (look p 0) 16 8 →
       exec .queueMigration s = .next (commandEnded 0x07 (.refused .range) s)) ∧
     (paramIndex p = 64 → bits (look p 0) 8 8 ≤ 3 → (look p 1).toNat < 2 ^ 28 → bits (look p 0) 16 8 ≤ 1 →
       exec .queueMigration s = .next (commandEnded 0x07 (.refused .state) s)) ∧
     (∀ (d : Fin 64) (dest : Window) (mode : Mode), paramIndex p = d.val → bits (look p 0) 8 8 = dest.target.val →
       (look p 1).toNat = dest.base.toNat →
       bits (look p 0) 16 8 = (match mode with | .move => 0 | .shadow => 1) →
       let x := s.desc (ordIdx d)
       let j : Job := ⟨newJobId s, d, dest, mode, .software⟩
       exec .queueMigration s = .next (
         if x.state ≠ .live then commandEnded 0x07 (.refused .state) s
         else if 8 ≤ s.eng.queue.length then commandEnded 0x07 (.refused .full) s
         else if ∃ j ∈ s.eng.jobs, j.desc = d then commandEnded 0x07 (.refused .duplicate) s
         else if x.read = .fault then commandEnded 0x07 (.refused .route) s
         else if dest.base.toNat % 4096 ≠ 0 then commandEnded 0x07 (.refused .align) s
         else if 2 ^ 28 < dest.base.toNat + 2 ^ x.size then commandEnded 0x07 (.refused .range) s
         else if ∃ w ∈ x.windows, w.target = dest.target ∧ w.base.toNat < dest.base.toNat + 2 ^ x.size ∧
             dest.base.toNat < w.base.toNat + 2 ^ x.size then
           commandEnded 0x07 (.refused .overlap) s
         else
           let v := commandEnded 0x07 (.done [place j.id.toNat 0]) s
           if s.eng.queue = [] ∧ s.eng.state = .idle ∧ s.eng.haltPending = false then
             if x.switching = true then
               v.modEng fun g => { g with active := some j, started := false, state := .starting, nextJobId := j.id + 1 }
             else
               (v.modDesc (ordIdx d) fun x => { x with state := .migrating }).modEng fun g =>
                 { g with
                   active := some j, started := true, state := .copying, nextJobId := j.id + 1
                   cursor := 0, lineInFlight := none, lineStep := none, lineData := none, retryCount := 0 }
           else v.modEng fun g => { g with queue := g.queue ++ [j], nextJobId := j.id + 1 }))) ∧
  (∀ s : State, s.eng.queue.length ≤ 8 →
     newJobId s ∉ s.eng.jobs.map Job.id ∧
     ∃ n : Nat, n < 256 ∧ newJobId s = s.eng.nextJobId + BitVec.ofNat 8 n ∧
       ∀ k : Nat, k < n → s.eng.nextJobId + BitVec.ofNat 8 k ∈ s.eng.jobs.map Job.id)

/-- CANCEL JOB (R113): a queued job leaves the queue ABORTED (CANCELLED); the active job ends so from any state but
CUTOVER, which refuses LATE; an ID above 255 is refused RANGE and one not held NOTFOUND. -/
def Obligations.CancelJobEndsTheJob : Prop :=
  ∀ s : State, s.mgmt.busy = false →
    let n := bits (look s.mgmt.param 0) 0 16
    (255 < n → exec .cancelJob s = .next (commandEnded 0x08 (.refused .range) s)) ∧
    (n ≤ 255 → (∀ j ∈ s.eng.jobs, j.id.toNat ≠ n) →
      exec .cancelJob s = .next (commandEnded 0x08 (.refused .notFound) s)) ∧
    (∀ j, s.eng.queue.find? (fun q => decide (q.id.toNat = n)) = some j →
      ∃ t, exec .cancelJob s = .next t ∧ t.mgmt = (commandEnded 0x08 (.done []) s).mgmt ∧
        t.eng = { s.eng with queue := s.eng.queue.eraseP fun q => decide (q.id = j.id) } ∧
        (∀ d, t.desc d = if d = ordIdx j.desc then { s.desc d with outcome := .aborted .cancelled } else s.desc d) ∧
        (∀ c, t.isPending c = (s.isPending c || decide (c = .jobAborted) || decide (c = .cmdDone))) ∧
        (∀ m, t.mon m =
          if j.origin = .monitorIdle m ∧ (s.mon m).idleJob = some j.id then { s.mon m with idleJob := none }
          else s.mon m) ∧
        t.evc.route = s.evc.route ∧ t.ports = s.ports ∧ t.tports = s.tports ∧ t.ticks = s.ticks ∧
        t.arrivals = s.arrivals) ∧
    (∀ j, s.eng.active = some j → j.id.toNat = n → (∀ q ∈ s.eng.queue, q.id.toNat ≠ n) →
      (s.eng.state = .cutover → exec .cancelJob s = .next (commandEnded 0x08 (.refused .late) s)) ∧
      (s.eng.state ≠ .cutover → exec .cancelJob s =
        .next (endCommand (.done []) (endActive .cancelled (latchCommand 0x08 s)))))

/-- HALT ENGINE (R114): IDLE, STARTING and COPYING without a line in flight are HALTED at once, also between the
completion of a line and the beginning of the next (R117); COPYING with a line in flight, CUTOVER and ABORTING note the
halt; HALTED, or a halt pending, refuses STATE. RESUME ENGINE (R115): refused STATE unless HALTED; without a job the
engine is IDLE, and the head job of a queue that is not empty becomes active at once (R109); an unstarted job, and a job
that so becomes active, is STARTING and at once starts, ends or waits as JOB_START says of it (R110); a started one is
COPYING below the line count, and enters CUTOVER at it. -/
def Obligations.HaltStopsAndResumeGoesOn : Prop :=
  (∀ s : State, s.mgmt.busy = false →
     (s.eng.state = .halted ∨ s.eng.haltPending = true →
       exec .haltEngine s = .next (commandEnded 0x0A (.refused .state) s)) ∧
     (s.eng.haltPending = false →
       (s.eng.state = .idle ∨ s.eng.state = .starting ∨ s.eng.state = .copying ∧ s.eng.lineInFlight = none →
         exec .haltEngine s =
           .next ((commandEnded 0x0A (.done []) s).modEng fun g => { g with state := .halted })) ∧
       (s.eng.state = .copying ∧ s.eng.lineInFlight ≠ none ∨ s.eng.state = .cutover ∨ s.eng.state = .aborting →
         exec .haltEngine s =
           .next ((commandEnded 0x0A (.done []) s).modEng fun g => { g with haltPending := true })))) ∧
  (∀ s : State, s.mgmt.busy = false →
     let v := latchCommand 0x0B s
     (s.eng.state ≠ .halted → exec .resumeEngine s = .next (commandEnded 0x0B (.refused .state) s)) ∧
     (s.eng.state = .halted →
       (s.eng.active = none →
         (s.eng.queue = [] → exec .resumeEngine s =
           .next ((commandEnded 0x0B (.done []) s).modEng fun g => { g with state := .idle })) ∧
         (∀ j rest, s.eng.queue = j :: rest → s.eng.haltPending = false → ∃ w,
           exec .jobStart (v.modEng fun g =>
             { g with queue := rest, active := some j, started := false, state := .starting }) = .next w ∧
           exec .resumeEngine s = .next (endCommand (.done []) w))) ∧
       (∀ j, s.eng.active = some j →
         (s.eng.started = false → ∃ w, exec .jobStart (v.modEng fun g => { g with state := .starting }) = .next w ∧
           exec .resumeEngine s = .next (endCommand (.done []) w)) ∧
         (s.eng.started = true → s.eng.cursor ≠ 2 ^ ((s.desc (ordIdx j.desc)).size - 6) → exec .resumeEngine s =
           .next ((commandEnded 0x0B (.done []) s).modEng fun g => { g with state := .copying })) ∧
         (s.eng.started = true → s.eng.cursor = 2 ^ ((s.desc (ordIdx j.desc)).size - 6) → exec .resumeEngine s =
           .next (endCommand (.done []) (enterCutover (v.modEng fun g => { g with state := .copying })))))))

/-- The budget timer's expiry gives the credits of BUDGET and loads the period, 256 microseconds for PERIOD 0 (R131).
A BUDGET write (R133, R179): the word keeps its two fields; a new PERIOD loads the timer, a PERIOD as it was does not;
a lower CREDITS clips the credits held, another leaves them. A RETRY write keeps bits 1:0 and changes nothing else
(R134, R179). -/
def Obligations.CreditsComeFromTheBudget : Prop :=
  (∀ s : State, exec .budgetExpiry s = .next (s.modEng fun g =>
     { g with
       credits := bits s.mgmt.budget 8 6
       budgetTimer := if bits s.mgmt.budget 0 8 = 0 then 256 else bits s.mgmt.budget 0 8 })) ∧
  (∀ (v : Word) (s : State), exec (.budgetWrite v) s = .next { s with
     mgmt := { s.mgmt with budget := v &&& 0x3FFF }
     eng := { s.eng with
       budgetTimer :=
         if bits v 0 8 = bits s.mgmt.budget 0 8 then s.eng.budgetTimer
         else if bits v 0 8 = 0 then 256 else bits v 0 8
       credits :=
         if bits v 8 6 < bits s.mgmt.budget 8 6 then min s.eng.credits (bits v 8 6)
         else s.eng.credits } }) ∧
  (∀ (v : Word) (s : State), exec (.retryWrite v) s = .next { s with mgmt := { s.mgmt with retry := v &&& 3 } })

/-! ## The Activity Monitors -/

/-- An access notification is sent to every monitor whose subject is the winner and that is not OFF, each to take it as its
own event (R42, R147). A monitor takes it when it arrives, which changes that monitor alone (R147, R155): COUNTING with
a filter that admits it, the count is the reload; IDLE so, the monitor wakes (R150), COUNTING at its reload with WAKE[m]
set, and asks the engine for the withdrawal of its idle job or, with none, for its wake template if present; OFF, with
another subject by then, or with a filter that does not admit it, nothing. The engine takes a withdrawal when it reaches
it (R107, R150): a queued job ends ABORTED (WITHDRAWN), and the idle job is cleared; for any other the idle job stays and
the wake template, if present, is asked for. A wake enqueue that the checks pass forms a job that the monitor records
nothing of; one they refuse sets QUEUE_REFUSED (R106). The steps at the monitor and at the engine come one after another
(log entry 27: the model's inference). -/
def Obligations.NotificationReloadsOrWakes : Prop :=
  (∀ (d : DescIdx) (dir : Dir) (s : State), notify d dir s =
     { s with arrivals := s.arrivals ++ ((List.finRange 16).filter fun m =>
         decide (ordIdx (s.mon m).subject = d ∧ (s.mon m).state ≠ .off)).map fun m => .access m d dir }) ∧
  (∀ (m : Fin 16) (d : DescIdx) (dir : Dir) (s : State),
     let x := s.mon m
     let admits : Prop := x.filter = .both ∨ x.filter = .reads ∧ dir = .read ∨ x.filter = .writes ∧ dir = .write
     let s1 : State := { s with arrivals := s.arrivals.erase (.access m d dir) }
     let t := takeEvent (.arrive (.access m d dir)) s
     (ordIdx x.subject ≠ d ∨ ¬admits ∨ x.state = .off → t = s1) ∧
     (ordIdx x.subject = d → admits →
       (x.state = .counting → t = s1.modMon m fun _ => { x with count := x.reload }) ∧
       (x.state = .idle → t = raise (.wake m) (s1.modMon m fun _ =>
         { x with
           state := .counting, count := x.reload
           ask := match x.idleJob with
             | some id => some (.withdraw id)
             | none => if x.wakeT.isSome = true then some .wake else none })))) ∧
  (∀ (m : Fin 16) (s : State),
     let x := s.mon m
     let s1 := s.modMon m fun _ => { x with ask := none }
     let t := takeEvent (.ask m) s
     (x.ask = none → t = s) ∧
     (∀ id, x.ask = some (.withdraw id) →
       (s.eng.queue.find? (fun q => decide (q.id = id)) = none →
         t = s.modMon m fun _ => { x with ask := if x.wakeT.isSome = true then some .wake else none }) ∧
       (∀ j, s.eng.queue.find? (fun q => decide (q.id = id)) = some j →
         t.mon m = { x with ask := none, idleJob := none } ∧
         (∀ n, n ≠ m → t.mon n =
           if j.origin = .monitorIdle n ∧ (s.mon n).idleJob = some id then { s.mon n with idleJob := none }
           else s.mon n) ∧
         t.eng = { s.eng with queue := s.eng.queue.eraseP fun q => decide (q.id = id) } ∧
         (∀ e, t.desc e =
           if e = ordIdx j.desc then { s.desc e with outcome := .aborted .withdrawn } else s.desc e) ∧
         (∀ c, t.isPending c = (s.isPending c || decide (c = .jobAborted))) ∧ t.evc.route = s.evc.route ∧
         t.ports = s.ports ∧ SameSurround s t)) ∧
     (∀ w, x.ask = some .wake → x.wakeT = some w →
       (∀ r, enqueueRefusal s x.subject w.dest = some r → t = raise .queueRefused s1) ∧
       (enqueueRefusal s x.subject w.dest = none → t = s1.modEng fun g =>
         { g with
           queue := g.queue ++ [⟨newJobId s, x.subject, w.dest, w.mode, .monitorWake m⟩]
           nextJobId := newJobId s + 1 })))

/-- A tick source that expires begins its next period, and sends a tick to every monitor that selects it and is not OFF,
each to take it as its own event (R145). A monitor takes the tick when it arrives, which changes that monitor alone
(R146): COUNTING above 1, the count falls by one; COUNTING at 1, the monitor goes idle (R149), IDLE with count 0 and
IDLE[m] set, and asks the engine for its idle template, if present; OFF, IDLE, or with another source selected by then,
nothing. The steps come one after another (log entry 27: the model's inference). -/
def Obligations.TickCountsDown : Prop :=
  (∀ (src : TickSel) (s : State),
     let k : Fin 4 := match src with | .t100u => 0 | .t1m => 1 | .t10m => 2 | .t100m => 3
     let period : Nat := match src with | .t100u => 100 | .t1m => 1000 | .t10m => 10000 | .t100m => 100000
     exec (.tick src) s = .next { s with
       ticks := upd s.ticks k period
       arrivals := s.arrivals ++ ((List.finRange 16).filter fun m =>
         decide ((s.mon m).tickSel = src ∧ (s.mon m).state ≠ .off)).map fun m => .tick m src }) ∧
  (∀ (m : Fin 16) (src : TickSel) (s : State), MonitorsFit s →
     let x := s.mon m
     let s1 : State := { s with arrivals := s.arrivals.erase (.tick m src) }
     let t := takeEvent (.arrive (.tick m src)) s
     (x.tickSel ≠ src ∨ x.state ≠ .counting → t = s1) ∧
     (x.tickSel = src → x.state = .counting →
       (1 < x.count → t = s1.modMon m fun _ => { x with count := x.count - 1 }) ∧
       (x.count = 1 → t = raise (.idle m) (s1.modMon m fun _ =>
         { x with state := .idle, count := 0, ask := if x.idleT.isSome = true then some .idle else none }))))

/-- A monitor that counts at 1 goes idle at a tick (R149): IDLE with count 0 and IDLE[m] set, and a present idle template
is asked for; a tick of its source that was on its way is this one (log entry 14: the model's inference). When the engine
takes the request (R106), the ID of the job so formed is the idle job; a refusal sets QUEUE_REFUSED and leaves the idle
job. A step the monitor has not finished is finished first (log entry 27). -/
def Obligations.MonitorGoesIdle : Prop :=
  (∀ (m : Fin 16) (s : State),
     let s1 : State := { s with arrivals := s.arrivals.erase (.tick m (s.mon m).tickSel) }
     (s.mon m).state = .counting → (s.mon m).count = 1 →
     ((s.mon m).ask = none → exec (.goIdle m) s = .next (raise (.idle m) (s1.modMon m fun x =>
       { x with state := .idle, count := 0, ask := if x.idleT.isSome = true then some .idle else none }))) ∧
     ((s.mon m).ask ≠ none → exec (.goIdle m) s = exec (.goIdle m) (takeEvent (.ask m) s))) ∧
  (∀ (m : Fin 16) (s : State) (w : Template),
     let x := s.mon m
     let s1 := s.modMon m fun _ => { x with ask := none }
     let t := takeEvent (.ask m) s
     x.ask = some .idle → x.idleT = some w →
     (∀ r, enqueueRefusal s x.subject w.dest = some r → t = raise .queueRefused s1) ∧
     (enqueueRefusal s x.subject w.dest = none → t = (s.modEng fun g =>
       { g with
         queue := g.queue ++ [⟨newJobId s, x.subject, w.dest, w.mode, .monitorIdle m⟩]
         nextJobId := newJobId s + 1 }).modMon m fun _ => { x with ask := none, idleJob := some (newJobId s) }))

/-- SET MONITOR takes its checks in order (R152): RANGE, STATE, RANGE, STATE, RANGE; one that passes writes the fields,
COUNTING at the reload with no idle job, drops what was on its way to the monitor, which takes the next tick and the
next access, and changes nothing else. Its fields are out of range exactly as R152 check 5 and R177 say. STOP MONITOR
(R153): above 15 refused RANGE, OFF refused STATE; a COUNTING or IDLE monitor goes OFF with count 0 and no idle job, its
other fields and its jobs as they were. A step that it has not finished is finished first (log entry 27). -/
def Obligations.MonitorsAreSetAndStopped : Prop :=
  (∀ s : State, s.mgmt.busy = false →
     let p0 := look s.mgmt.param 0
     (15 < bits p0 0 8 → exec .setMonitor s = .next (commandEnded 0x0C (.refused .range) s)) ∧
     (∀ m : Fin 16, bits p0 0 8 = m.val →
       ((s.mon m).state ≠ .off → exec .setMonitor s = .next (commandEnded 0x0C (.refused .state) s)) ∧
       ((s.mon m).state = .off →
         (63 < bits p0 8 8 → exec .setMonitor s = .next (commandEnded 0x0C (.refused .range) s)) ∧
         (∀ d : Fin 64, bits p0 8 8 = d.val →
           ((s.desc (ordIdx d)).state ≠ .live → (s.desc (ordIdx d)).state ≠ .migrating →
             exec .setMonitor s = .next (commandEnded 0x0C (.refused .state) s)) ∧
           ((s.desc (ordIdx d)).state = .live ∨ (s.desc (ordIdx d)).state = .migrating →
             (parseMonitor s.mgmt.param = none →
               exec .setMonitor s = .next (commandEnded 0x0C (.refused .range) s)) ∧
             (∀ f, parseMonitor s.mgmt.param = some f → exec .setMonitor s =
               .next { (commandEnded 0x0C (.done []) s).modMon m fun _ =>
                   ⟨.counting, d, f.reload, f.reload, f.tickSel, f.filter, f.idleT, f.wakeT, none, none⟩ with
                 arrivals := s.arrivals.filter fun a => decide (a.monitor ≠ m) })))))) ∧
  (∀ p : Vector Word 6,
     let badTemplate (a b : Word) : Prop :=
       1 < bits a 0 8 ∨ bits a 0 8 = 1 ∧ (3 < bits a 8 8 ∨ 1 < bits a 16 8 ∨ 2 ^ 28 ≤ b.toNat)
     parseMonitor p = none ↔
       bits (look p 0) 16 16 = 0 ∨ 255 < bits (look p 0) 16 16 ∨ 3 < bits (look p 1) 0 8 ∨ 2 < bits (look p 1) 8 8 ∨
         badTemplate (look p 2) (look p 3) ∨ badTemplate (look p 4) (look p 5)) ∧
  (∀ s : State, s.mgmt.busy = false →
     let n := bits (look s.mgmt.param 0) 0 8
     (15 < n → exec .stopMonitor s = .next (commandEnded 0x0D (.refused .range) s)) ∧
     (∀ m : Fin 16, n = m.val →
       ((s.mon m).state = .off → exec .stopMonitor s = .next (commandEnded 0x0D (.refused .state) s)) ∧
       ((s.mon m).state ≠ .off →
         ((s.mon m).ask = none → exec .stopMonitor s = .next ((commandEnded 0x0D (.done []) s).modMon m fun x =>
           { x with state := .off, count := 0, idleJob := none })) ∧
         ((s.mon m).ask ≠ none → exec .stopMonitor s = exec .stopMonitor (takeEvent (.ask m) s)))))

/-! ## Events and the management window -/

/-- A set makes its class pending and touches no other class and no route (R159). A write of a pending word (R160, R178):
the classes of that word written 1 are not pending, all others stay, and nothing else changes. A write of a route word
(R162, R178): each class of that word takes the route its field codes, OFF for a code that names none; all others stay;
no flag changes; and the lines follow at once (R163). The classes are numbered as R178 says. -/
def Obligations.EventFlagsAndRoutes : Prop :=
  ((∀ i, (EventClass.decode i).num.val = i.val ∧ (EventClass.target i).num.val = 4 + i.val ∧
       (EventClass.offline i).num.val = 8 + i.val) ∧
     [EventClass.jobDone, .jobFailed, .jobAborted, .queueRefused, .switched, .retired, .cmdDone].map
       (fun c => c.num.val) = [12, 13, 14, 15, 16, 17, 18] ∧
     ∀ m, (EventClass.idle m).num.val = 19 + m.val ∧ (EventClass.wake m).num.val = 35 + m.val) ∧
  (∀ (c e : EventClass) (s : State),
     (raise c s).isPending e = (s.isPending e || decide (e = c)) ∧ (raise c s).routeOf e = s.routeOf e ∧
       { raise c s with evc := s.evc } = s) ∧
  (∀ (k : Fin 2) (v : Word) (s : State), ∃ t, exec (.eventPendingWrite k v) s = .next t ∧
     (∀ c : EventClass, t.isPending c =
       if c.num.val / 32 = k.val ∧ v.getLsbD (c.num.val % 32) = true then false else s.isPending c) ∧
     t = { s with evc := { s.evc with pending := t.evc.pending } }) ∧
  (∀ (j : Fin 4) (v : Word) (s : State), ∃ t, exec (.eventRouteWrite j v) s = .next t ∧
     (∀ c : EventClass, t.routeOf c =
       if c.num.val / 16 = j.val then
         (match bits v (2 * (c.num.val % 16)) 2 with | 1 => .irq | 2 => .alert | _ => .off)
       else s.routeOf c) ∧
     t = { s with evc := { s.evc with route := t.evc.route } } ∧
     (s.resetAsserted = false →
       (t.irq = true ↔ ∃ n : Fin 51, look t.evc.pending n = true ∧ look t.evc.route n = .irq) ∧
       (t.alert = true ↔ ∃ n : Fin 51, look t.evc.pending n = true ∧ look t.evc.route n = .alert)))

/-- The end of a command (R169, R170): CMD_BUSY clear, COMMAND and last command its code, last reason its reason, RESULT0
both, RESULT1 on its data or 0, CMD_DONE set, the parameters latched; nothing else changes. The reason codes are those
of R170. -/
def Obligations.CommandEndReportsTheResult : Prop :=
  ∀ (code : BitVec 8) (e : CmdEnd) (s : State),
    let t := commandEnded code e s
    let reason : Nat := match e with
      | .done _ => 0 | .refused .state => 1 | .refused .busy => 2 | .refused .align => 3 | .refused .range => 4
      | .refused .route => 5 | .refused .conflict => 6 | .refused .full => 7 | .refused .duplicate => 8
      | .refused .overlap => 9 | .refused .late => 10 | .refused .notFound => 11 | .refused .unknown => 12
    t.mgmt.busy = false ∧ t.mgmt.command = code ∧ t.mgmt.lastCommand = code ∧
    t.mgmt.lastReason.toNat = reason ∧ bits (look t.mgmt.result 0) 0 4 = reason ∧
    look t.mgmt.result 0 = BitVec.ofNat 32 (reason + 256 * code.toNat) ∧
    (∀ n : Fin 8, n ≠ 0 → look t.mgmt.result n =
      match e with | .done ws => ws.getD (n.val - 1) 0 | .refused _ => 0) ∧
    t.mgmt.latched = s.mgmt.param ∧ t.mgmt.param = s.mgmt.param ∧ t.mgmt.overrun = s.mgmt.overrun ∧
    t.mgmt.budget = s.mgmt.budget ∧ t.mgmt.retry = s.mgmt.retry ∧ t.mgmt.tgtTimeout = s.mgmt.tgtTimeout ∧
    (∀ c, t.isPending c = (s.isPending c || decide (c = .cmdDone))) ∧ t.evc.route = s.evc.route ∧
    { t with mgmt := s.mgmt, evc := s.evc } = s

/-- Any COMMAND write while CMD_BUSY is 1 is ignored and sets OVERRUN (R171), whichever row sends it. A STATUS write
clears OVERRUN when its bit 1 is set, and does nothing else (R171). A COMMAND write of a code that is not assigned is
taken and refused UNKNOWN, and acts on no block (R173). -/
def Obligations.CommandWritesWhileBusyOrUnassigned : Prop :=
  (∀ s : State, s.mgmt.busy = true →
     let t := { s with mgmt := { s.mgmt with overrun := true } }
     (∀ v, exec (.commandOverrun v) s = .next t ∧ exec (.unknownCommand v) s = .next t) ∧
     ∀ c ∈ [Instr.stage, .activate, .modify, .retire, .readDescriptor, .probe, .queueMigration, .cancelJob, .queryJob,
       .haltEngine, .resumeEngine, .setMonitor, .stopMonitor, .readMonitor, .restoreTarget, .restart],
       exec c s = .next t) ∧
  (∀ (v : Word) (s : State), exec (.statusWrite v) s = .next { s with mgmt := { s.mgmt with
     overrun := if v.getLsbD 1 = true then false else s.mgmt.overrun } }) ∧
  (∀ (v : Word) (s : State), s.mgmt.busy = false → (bits v 0 8 = 0 ∨ 16 < bits v 0 8) →
     exec (.unknownCommand v) s = .next (commandEnded (BitVec.ofNat 8 (bits v 0 8)) (.refused .unknown) s))

/-- A write of a PARAM word stores it, also while a command is in progress, and a read returns it; a write of IDENT, a
RESULT word or an offset not named is ignored (R168, R169). -/
def Obligations.ParamWriteStoresAndReadsBack : Prop :=
  ∀ (off : BitVec 6) (v : Word) (s : State),
    (∀ k : Fin 6, off.toNat = 4 + k.val →
      ∃ t, exec (.registerWrite off v) s = .next t ∧
        t = { s with mgmt := { s.mgmt with param := upd s.mgmt.param k v } } ∧
        windowValue (windowAt off) t = v) ∧
    (off.toNat = 0 ∨ off.toNat = 3 ∨ (10 ≤ off.toNat ∧ off.toNat < 24) ∨ off.toNat = 26 ∨ off.toNat = 27 ∨
        34 < off.toNat → exec (.registerWrite off v) s = .next s)

/-- A read of the window (R168, R172, R178): IDENT is 004008C8h; STATUS shows the port's own state and the engine's, as
they stand; each class's flag and route code stand in their places, the classes numbered as R178 says; the PARAM, RESULT
and configuration words and COMMAND read as they are held; an offset not named reads 0. -/
def Obligations.WindowReadsTheState : Prop :=
  ((∀ i, (EventClass.decode i).num.val = i.val ∧ (EventClass.target i).num.val = 4 + i.val ∧
       (EventClass.offline i).num.val = 8 + i.val) ∧
     [EventClass.jobDone, .jobFailed, .jobAborted, .queueRefused, .switched, .retired, .cmdDone].map
       (fun c => c.num.val) = [12, 13, 14, 15, 16, 17, 18] ∧
     ∀ m, (EventClass.idle m).num.val = 19 + m.val ∧ (EventClass.wake m).num.val = 35 + m.val) ∧
  (∀ s : State, s.eng.queue.length ≤ 8 →
     let status := readWord 1 s
     readWord 0 s = 0x004008C8 ∧
     (bits status 0 1 = flag s.mgmt.busy ∧ bits status 1 1 = flag s.mgmt.overrun ∧ bits status 2 2 = 0 ∧
       bits status 4 4 = s.mgmt.lastReason.toNat ∧ bits status 8 8 = s.mgmt.lastCommand.toNat ∧
       bits status 16 3 = (match s.eng.state with
         | .idle => 0 | .starting => 1 | .copying => 2 | .cutover => 3 | .aborting => 4 | .halted => 5) ∧
       bits status 19 1 = flag s.eng.haltPending ∧ bits status 20 4 = s.eng.queue.length ∧ bits status 24 8 = 0) ∧
     (readWord 2 s).toNat = s.mgmt.command.toNat ∧
     (∀ k : Fin 6, readWord (BitVec.ofNat 6 (4 + k.val)) s = look s.mgmt.param k) ∧
     (∀ k : Fin 8, readWord (BitVec.ofNat 6 (16 + k.val)) s = look s.mgmt.result k) ∧
     (∀ c : EventClass,
       (readWord (BitVec.ofNat 6 (24 + c.num.val / 32)) s).getLsbD (c.num.val % 32) = s.isPending c ∧
       bits (readWord (BitVec.ofNat 6 (28 + c.num.val / 16)) s) (2 * (c.num.val % 16)) 2 =
         (match s.routeOf c with | .off => 0 | .irq => 1 | .alert => 2)) ∧
     readWord 32 s = s.mgmt.budget ∧ readWord 33 s = s.mgmt.retry ∧ readWord 34 s = s.mgmt.tgtTimeout ∧
     (∀ off : BitVec 6, off.toNat = 3 ∨ (10 ≤ off.toNat ∧ off.toNat < 16) ∨ off.toNat = 26 ∨ off.toNat = 27 ∨
       34 < off.toNat → readWord off s = 0))

/-! ## The laws that every step keeps -/

/-- Every step keeps the floor LIVE at base 0 and size 28 (R9, R10). Every step keeps regions of ordinary descriptors
sized 12 to 28, and those in use aligned (R1, R2). Every step keeps regions distinct: no two ordinary descriptors in
LIVE, MIGRATING or DRAINING come to have the same base and size (R16). -/
def Obligations.FloorAndRegionsStayLawful : Prop :=
  (KeptByStep FloorFixed) ∧
  (KeptByStep RegionsAligned) ∧
  (KeptByStep RegionsDistinct)

/-- Every step keeps the engine's record one that R108 and R121 allow, with its descriptor MIGRATING exactly while its
job has started (R110), and the map's switches as R11, R49 and R53 say. -/
def Obligations.EngineAndMapStayInStep : Prop :=
  KeptByStep fun s => EngineFits s ∧ UnusedAtRest s ∧ SwitchesWait s

/-- Every step keeps living jobs distinct in ID and in descriptor, at most 8 queued (R103, R104). Every step keeps
credits held at most CREDITS (R131). -/
def Obligations.JobsAndCreditsStayInBounds : Prop :=
  (KeptByStep JobsDistinct) ∧
  (KeptByStep CreditsBounded)

/-- Every step keeps the Target Ports' records as R83, R84, R92 and R96 allow. Every step keeps CMD_BUSY 1 exactly
while one port is restoring (R98, R169). -/
def Obligations.TargetPortsStayFit : Prop :=
  (KeptByStep TargetPortsFit) ∧
  (KeptByStep BusyIsRestoring)

/-- Every step keeps the monitors' records as R144 allows, with the subject of a running one in use. -/
def Obligations.MonitorsStayFit : Prop :=
  KeptByStep MonitorsFit

/-- Every step keeps the laws of the transactions: slots, leg queues, answer lists and resolution queues name each
other as R71 to R79 say, one outstanding request stands for each GRANTED leg (R83, R86), and the in-flight counts are
the numbers of slots counted (R48, R49). No response, result or count is lost or comes twice. -/
def Obligations.TransactionsStayFit : Prop :=
  KeptByStep TransactionsFit
end

