-- ==== Sys2Proof/Laws/Tables.lean ====
section
/-! SUPPORT. Tables of records: what `look`, `upd`, `tabulate` and `vmap` give. -/

namespace Sys2Proof.Machine

variable {α β : Type} {n : Nat}

@[simp] theorem look_upd_self (v : Vector α n) (i : Fin n) (x : α) : look (upd v i x) i = x := by
  simp [look, upd]

@[simp] theorem look_upd_ne (v : Vector α n) {i j : Fin n} (x : α) (h : j ≠ i) : look (upd v i x) j = look v j := by
  have : i.val ≠ j.val := fun e => h (Fin.ext e.symm)
  simp [look, upd, Vector.getElem_set_ne, this]

theorem look_upd (v : Vector α n) (i j : Fin n) (x : α) :
    look (upd v i x) j = if j = i then x else look v j := by
  by_cases h : j = i
  · subst h; simp
  · simp [h]

@[simp] theorem look_tabulate (f : Fin n → α) (i : Fin n) : look (tabulate f) i = f i := by
  simp [look, tabulate]

@[simp] theorem look_vmap (f : α → β) (v : Vector α n) (i : Fin n) : look (vmap f v) i = f (look v i) := by
  simp [vmap]

@[simp] theorem look_replicate (x : α) (i : Fin n) : look (Vector.replicate n x) i = x := by
  simp [look]

theorem table_ext {v w : Vector α n} (h : ∀ i, look v i = look w i) : v = w := by
  apply Vector.ext
  intro i hi
  exact h ⟨i, hi⟩

@[simp] theorem upd_look (v : Vector α n) (i : Fin n) : upd v i (look v i) = v :=
  table_ext fun j => by rw [look_upd]; split <;> simp_all

@[simp] theorem upd_upd (v : Vector α n) (i : Fin n) (x y : α) : upd (upd v i x) i y = upd v i y :=
  table_ext fun j => by simp only [look_upd]; split <;> rfl

theorem mem_ordinaries (d : Fin 64) : d ∈ ordinaries := List.mem_finRange d

theorem mem_slotIdxs (k : Fin 8) : k ∈ slotIdxs := List.mem_finRange k

theorem mem_four (i : Fin 4) : i ∈ four := List.mem_finRange i

theorem mem_monitors (m : Fin 16) : m ∈ monitors := List.mem_finRange m

@[simp] theorem ordIdx_inj {d e : Fin 64} : ordIdx d = ordIdx e ↔ d = e := Fin.castSucc_inj

@[simp] theorem ordIdx_ne_floor (d : Fin 64) : ordIdx d ≠ floorIdx := by
  intro h
  have := congrArg Fin.val h
  simp [ordIdx, floorIdx] at this
  omega

@[simp] theorem floor_ne_ordIdx (d : Fin 64) : floorIdx ≠ ordIdx d := (ordIdx_ne_floor d).symm

/-- Every index is the floor or an ordinary descriptor's (R1). -/
theorem idx_cases (d : DescIdx) : d = floorIdx ∨ ∃ e : Fin 64, d = ordIdx e := by
  by_cases h : d.val < 64
  · exact .inr ⟨⟨d.val, h⟩, rfl⟩
  · exact .inl (Fin.ext (by simp [floorIdx]; omega))

end Sys2Proof.Machine
end

