-- ==== Sys2Proof/Laws/State.lean ====
section
/-! SUPPORT. One lemma for each field of the state under each update, and under the shared single-record operations. -/

namespace Sys2Proof.Machine
namespace State

variable (s : State)

/-! ### modDesc -/

@[simp] theorem modDesc_ports (d : DescIdx) (f : Desc → Desc) : (s.modDesc d f).ports = s.ports := rfl
@[simp] theorem modDesc_tports (d : DescIdx) (f : Desc → Desc) : (s.modDesc d f).tports = s.tports := rfl
@[simp] theorem modDesc_eng (d : DescIdx) (f : Desc → Desc) : (s.modDesc d f).eng = s.eng := rfl
@[simp] theorem modDesc_mons (d : DescIdx) (f : Desc → Desc) : (s.modDesc d f).mons = s.mons := rfl
@[simp] theorem modDesc_ticks (d : DescIdx) (f : Desc → Desc) : (s.modDesc d f).ticks = s.ticks := rfl
@[simp] theorem modDesc_arrivals (d : DescIdx) (f : Desc → Desc) : (s.modDesc d f).arrivals = s.arrivals := rfl
@[simp] theorem modDesc_evc (d : DescIdx) (f : Desc → Desc) : (s.modDesc d f).evc = s.evc := rfl
@[simp] theorem modDesc_mgmt (d : DescIdx) (f : Desc → Desc) : (s.modDesc d f).mgmt = s.mgmt := rfl
@[simp] theorem modDesc_resetAsserted (d : DescIdx) (f : Desc → Desc) : (s.modDesc d f).resetAsserted = s.resetAsserted := rfl
@[simp] theorem modDesc_freeDraws (d : DescIdx) (f : Desc → Desc) : (s.modDesc d f).freeDraws = s.freeDraws := rfl
@[simp] theorem modDesc_pending (d : DescIdx) (f : Desc → Desc) : (s.modDesc d f).pending = s.pending := rfl
@[simp] theorem modDesc_port (d : DescIdx) (f : Desc → Desc) (j : Fin 4) : (s.modDesc d f).port j = s.port j := rfl
@[simp] theorem modDesc_slot (d : DescIdx) (f : Desc → Desc) (j : Fin 4) (l : Fin 8) : (s.modDesc d f).slot j l = s.slot j l := rfl
@[simp] theorem modDesc_tport (d : DescIdx) (f : Desc → Desc) (j : Fin 4) : (s.modDesc d f).tport j = s.tport j := rfl
@[simp] theorem modDesc_mon (d : DescIdx) (f : Desc → Desc) (j : Fin 16) : (s.modDesc d f).mon j = s.mon j := rfl

/-! ### modPort -/

@[simp] theorem modPort_map (i : Fin 4) (f : IPort → IPort) : (s.modPort i f).map = s.map := rfl
@[simp] theorem modPort_tports (i : Fin 4) (f : IPort → IPort) : (s.modPort i f).tports = s.tports := rfl
@[simp] theorem modPort_eng (i : Fin 4) (f : IPort → IPort) : (s.modPort i f).eng = s.eng := rfl
@[simp] theorem modPort_mons (i : Fin 4) (f : IPort → IPort) : (s.modPort i f).mons = s.mons := rfl
@[simp] theorem modPort_ticks (i : Fin 4) (f : IPort → IPort) : (s.modPort i f).ticks = s.ticks := rfl
@[simp] theorem modPort_arrivals (i : Fin 4) (f : IPort → IPort) : (s.modPort i f).arrivals = s.arrivals := rfl
@[simp] theorem modPort_evc (i : Fin 4) (f : IPort → IPort) : (s.modPort i f).evc = s.evc := rfl
@[simp] theorem modPort_mgmt (i : Fin 4) (f : IPort → IPort) : (s.modPort i f).mgmt = s.mgmt := rfl
@[simp] theorem modPort_resetAsserted (i : Fin 4) (f : IPort → IPort) : (s.modPort i f).resetAsserted = s.resetAsserted := rfl
@[simp] theorem modPort_freeDraws (i : Fin 4) (f : IPort → IPort) : (s.modPort i f).freeDraws = s.freeDraws := rfl
@[simp] theorem modPort_pending (i : Fin 4) (f : IPort → IPort) : (s.modPort i f).pending = s.pending := rfl
@[simp] theorem modPort_desc (i : Fin 4) (f : IPort → IPort) (e : DescIdx) : (s.modPort i f).desc e = s.desc e := rfl
@[simp] theorem modPort_tport (i : Fin 4) (f : IPort → IPort) (j : Fin 4) : (s.modPort i f).tport j = s.tport j := rfl
@[simp] theorem modPort_mon (i : Fin 4) (f : IPort → IPort) (j : Fin 16) : (s.modPort i f).mon j = s.mon j := rfl

/-! ### modSlot -/

@[simp] theorem modSlot_map (i : Fin 4) (k : Fin 8) (f : Slot → Slot) : (s.modSlot i k f).map = s.map := rfl
@[simp] theorem modSlot_tports (i : Fin 4) (k : Fin 8) (f : Slot → Slot) : (s.modSlot i k f).tports = s.tports := rfl
@[simp] theorem modSlot_eng (i : Fin 4) (k : Fin 8) (f : Slot → Slot) : (s.modSlot i k f).eng = s.eng := rfl
@[simp] theorem modSlot_mons (i : Fin 4) (k : Fin 8) (f : Slot → Slot) : (s.modSlot i k f).mons = s.mons := rfl
@[simp] theorem modSlot_ticks (i : Fin 4) (k : Fin 8) (f : Slot → Slot) : (s.modSlot i k f).ticks = s.ticks := rfl
@[simp] theorem modSlot_arrivals (i : Fin 4) (k : Fin 8) (f : Slot → Slot) : (s.modSlot i k f).arrivals = s.arrivals := rfl
@[simp] theorem modSlot_evc (i : Fin 4) (k : Fin 8) (f : Slot → Slot) : (s.modSlot i k f).evc = s.evc := rfl
@[simp] theorem modSlot_mgmt (i : Fin 4) (k : Fin 8) (f : Slot → Slot) : (s.modSlot i k f).mgmt = s.mgmt := rfl
@[simp] theorem modSlot_resetAsserted (i : Fin 4) (k : Fin 8) (f : Slot → Slot) : (s.modSlot i k f).resetAsserted = s.resetAsserted := rfl
@[simp] theorem modSlot_freeDraws (i : Fin 4) (k : Fin 8) (f : Slot → Slot) : (s.modSlot i k f).freeDraws = s.freeDraws := rfl
@[simp] theorem modSlot_pending (i : Fin 4) (k : Fin 8) (f : Slot → Slot) : (s.modSlot i k f).pending = s.pending := rfl
@[simp] theorem modSlot_desc (i : Fin 4) (k : Fin 8) (f : Slot → Slot) (e : DescIdx) : (s.modSlot i k f).desc e = s.desc e := rfl
@[simp] theorem modSlot_tport (i : Fin 4) (k : Fin 8) (f : Slot → Slot) (j : Fin 4) : (s.modSlot i k f).tport j = s.tport j := rfl
@[simp] theorem modSlot_mon (i : Fin 4) (k : Fin 8) (f : Slot → Slot) (j : Fin 16) : (s.modSlot i k f).mon j = s.mon j := rfl

/-! ### modTPort -/

@[simp] theorem modTPort_map (t : Fin 4) (f : TPort → TPort) : (s.modTPort t f).map = s.map := rfl
@[simp] theorem modTPort_ports (t : Fin 4) (f : TPort → TPort) : (s.modTPort t f).ports = s.ports := rfl
@[simp] theorem modTPort_eng (t : Fin 4) (f : TPort → TPort) : (s.modTPort t f).eng = s.eng := rfl
@[simp] theorem modTPort_mons (t : Fin 4) (f : TPort → TPort) : (s.modTPort t f).mons = s.mons := rfl
@[simp] theorem modTPort_ticks (t : Fin 4) (f : TPort → TPort) : (s.modTPort t f).ticks = s.ticks := rfl
@[simp] theorem modTPort_arrivals (t : Fin 4) (f : TPort → TPort) : (s.modTPort t f).arrivals = s.arrivals := rfl
@[simp] theorem modTPort_evc (t : Fin 4) (f : TPort → TPort) : (s.modTPort t f).evc = s.evc := rfl
@[simp] theorem modTPort_mgmt (t : Fin 4) (f : TPort → TPort) : (s.modTPort t f).mgmt = s.mgmt := rfl
@[simp] theorem modTPort_resetAsserted (t : Fin 4) (f : TPort → TPort) : (s.modTPort t f).resetAsserted = s.resetAsserted := rfl
@[simp] theorem modTPort_freeDraws (t : Fin 4) (f : TPort → TPort) : (s.modTPort t f).freeDraws = s.freeDraws := rfl
@[simp] theorem modTPort_pending (t : Fin 4) (f : TPort → TPort) : (s.modTPort t f).pending = s.pending := rfl
@[simp] theorem modTPort_desc (t : Fin 4) (f : TPort → TPort) (e : DescIdx) : (s.modTPort t f).desc e = s.desc e := rfl
@[simp] theorem modTPort_port (t : Fin 4) (f : TPort → TPort) (j : Fin 4) : (s.modTPort t f).port j = s.port j := rfl
@[simp] theorem modTPort_slot (t : Fin 4) (f : TPort → TPort) (j : Fin 4) (l : Fin 8) : (s.modTPort t f).slot j l = s.slot j l := rfl
@[simp] theorem modTPort_mon (t : Fin 4) (f : TPort → TPort) (j : Fin 16) : (s.modTPort t f).mon j = s.mon j := rfl

/-! ### modEng -/

@[simp] theorem modEng_map (f : Engine → Engine) : (s.modEng f).map = s.map := rfl
@[simp] theorem modEng_ports (f : Engine → Engine) : (s.modEng f).ports = s.ports := rfl
@[simp] theorem modEng_tports (f : Engine → Engine) : (s.modEng f).tports = s.tports := rfl
@[simp] theorem modEng_mons (f : Engine → Engine) : (s.modEng f).mons = s.mons := rfl
@[simp] theorem modEng_ticks (f : Engine → Engine) : (s.modEng f).ticks = s.ticks := rfl
@[simp] theorem modEng_arrivals (f : Engine → Engine) : (s.modEng f).arrivals = s.arrivals := rfl
@[simp] theorem modEng_evc (f : Engine → Engine) : (s.modEng f).evc = s.evc := rfl
@[simp] theorem modEng_mgmt (f : Engine → Engine) : (s.modEng f).mgmt = s.mgmt := rfl
@[simp] theorem modEng_resetAsserted (f : Engine → Engine) : (s.modEng f).resetAsserted = s.resetAsserted := rfl
@[simp] theorem modEng_freeDraws (f : Engine → Engine) : (s.modEng f).freeDraws = s.freeDraws := rfl
@[simp] theorem modEng_pending (f : Engine → Engine) : (s.modEng f).pending = s.pending := rfl
@[simp] theorem modEng_desc (f : Engine → Engine) (e : DescIdx) : (s.modEng f).desc e = s.desc e := rfl
@[simp] theorem modEng_port (f : Engine → Engine) (j : Fin 4) : (s.modEng f).port j = s.port j := rfl
@[simp] theorem modEng_slot (f : Engine → Engine) (j : Fin 4) (l : Fin 8) : (s.modEng f).slot j l = s.slot j l := rfl
@[simp] theorem modEng_tport (f : Engine → Engine) (j : Fin 4) : (s.modEng f).tport j = s.tport j := rfl
@[simp] theorem modEng_mon (f : Engine → Engine) (j : Fin 16) : (s.modEng f).mon j = s.mon j := rfl

/-! ### modMon -/

@[simp] theorem modMon_map (m : Fin 16) (f : Monitor → Monitor) : (s.modMon m f).map = s.map := rfl
@[simp] theorem modMon_ports (m : Fin 16) (f : Monitor → Monitor) : (s.modMon m f).ports = s.ports := rfl
@[simp] theorem modMon_tports (m : Fin 16) (f : Monitor → Monitor) : (s.modMon m f).tports = s.tports := rfl
@[simp] theorem modMon_eng (m : Fin 16) (f : Monitor → Monitor) : (s.modMon m f).eng = s.eng := rfl
@[simp] theorem modMon_ticks (m : Fin 16) (f : Monitor → Monitor) : (s.modMon m f).ticks = s.ticks := rfl
@[simp] theorem modMon_arrivals (m : Fin 16) (f : Monitor → Monitor) : (s.modMon m f).arrivals = s.arrivals := rfl
@[simp] theorem modMon_evc (m : Fin 16) (f : Monitor → Monitor) : (s.modMon m f).evc = s.evc := rfl
@[simp] theorem modMon_mgmt (m : Fin 16) (f : Monitor → Monitor) : (s.modMon m f).mgmt = s.mgmt := rfl
@[simp] theorem modMon_resetAsserted (m : Fin 16) (f : Monitor → Monitor) : (s.modMon m f).resetAsserted = s.resetAsserted := rfl
@[simp] theorem modMon_freeDraws (m : Fin 16) (f : Monitor → Monitor) : (s.modMon m f).freeDraws = s.freeDraws := rfl
@[simp] theorem modMon_pending (m : Fin 16) (f : Monitor → Monitor) : (s.modMon m f).pending = s.pending := rfl
@[simp] theorem modMon_desc (m : Fin 16) (f : Monitor → Monitor) (e : DescIdx) : (s.modMon m f).desc e = s.desc e := rfl
@[simp] theorem modMon_port (m : Fin 16) (f : Monitor → Monitor) (j : Fin 4) : (s.modMon m f).port j = s.port j := rfl
@[simp] theorem modMon_slot (m : Fin 16) (f : Monitor → Monitor) (j : Fin 4) (l : Fin 8) : (s.modMon m f).slot j l = s.slot j l := rfl
@[simp] theorem modMon_tport (m : Fin 16) (f : Monitor → Monitor) (j : Fin 4) : (s.modMon m f).tport j = s.tport j := rfl

/-! ### modEvc -/

@[simp] theorem modEvc_map (f : EventCtl → EventCtl) : (s.modEvc f).map = s.map := rfl
@[simp] theorem modEvc_ports (f : EventCtl → EventCtl) : (s.modEvc f).ports = s.ports := rfl
@[simp] theorem modEvc_tports (f : EventCtl → EventCtl) : (s.modEvc f).tports = s.tports := rfl
@[simp] theorem modEvc_eng (f : EventCtl → EventCtl) : (s.modEvc f).eng = s.eng := rfl
@[simp] theorem modEvc_mons (f : EventCtl → EventCtl) : (s.modEvc f).mons = s.mons := rfl
@[simp] theorem modEvc_ticks (f : EventCtl → EventCtl) : (s.modEvc f).ticks = s.ticks := rfl
@[simp] theorem modEvc_arrivals (f : EventCtl → EventCtl) : (s.modEvc f).arrivals = s.arrivals := rfl
@[simp] theorem modEvc_mgmt (f : EventCtl → EventCtl) : (s.modEvc f).mgmt = s.mgmt := rfl
@[simp] theorem modEvc_resetAsserted (f : EventCtl → EventCtl) : (s.modEvc f).resetAsserted = s.resetAsserted := rfl
@[simp] theorem modEvc_freeDraws (f : EventCtl → EventCtl) : (s.modEvc f).freeDraws = s.freeDraws := rfl
@[simp] theorem modEvc_pending (f : EventCtl → EventCtl) : (s.modEvc f).pending = s.pending := rfl
@[simp] theorem modEvc_desc (f : EventCtl → EventCtl) (e : DescIdx) : (s.modEvc f).desc e = s.desc e := rfl
@[simp] theorem modEvc_port (f : EventCtl → EventCtl) (j : Fin 4) : (s.modEvc f).port j = s.port j := rfl
@[simp] theorem modEvc_slot (f : EventCtl → EventCtl) (j : Fin 4) (l : Fin 8) : (s.modEvc f).slot j l = s.slot j l := rfl
@[simp] theorem modEvc_tport (f : EventCtl → EventCtl) (j : Fin 4) : (s.modEvc f).tport j = s.tport j := rfl
@[simp] theorem modEvc_mon (f : EventCtl → EventCtl) (j : Fin 16) : (s.modEvc f).mon j = s.mon j := rfl

/-! ### modMgmt -/

@[simp] theorem modMgmt_map (f : Mgmt → Mgmt) : (s.modMgmt f).map = s.map := rfl
@[simp] theorem modMgmt_ports (f : Mgmt → Mgmt) : (s.modMgmt f).ports = s.ports := rfl
@[simp] theorem modMgmt_tports (f : Mgmt → Mgmt) : (s.modMgmt f).tports = s.tports := rfl
@[simp] theorem modMgmt_eng (f : Mgmt → Mgmt) : (s.modMgmt f).eng = s.eng := rfl
@[simp] theorem modMgmt_mons (f : Mgmt → Mgmt) : (s.modMgmt f).mons = s.mons := rfl
@[simp] theorem modMgmt_ticks (f : Mgmt → Mgmt) : (s.modMgmt f).ticks = s.ticks := rfl
@[simp] theorem modMgmt_arrivals (f : Mgmt → Mgmt) : (s.modMgmt f).arrivals = s.arrivals := rfl
@[simp] theorem modMgmt_evc (f : Mgmt → Mgmt) : (s.modMgmt f).evc = s.evc := rfl
@[simp] theorem modMgmt_resetAsserted (f : Mgmt → Mgmt) : (s.modMgmt f).resetAsserted = s.resetAsserted := rfl
@[simp] theorem modMgmt_freeDraws (f : Mgmt → Mgmt) : (s.modMgmt f).freeDraws = s.freeDraws := rfl
@[simp] theorem modMgmt_pending (f : Mgmt → Mgmt) : (s.modMgmt f).pending = s.pending := rfl
@[simp] theorem modMgmt_desc (f : Mgmt → Mgmt) (e : DescIdx) : (s.modMgmt f).desc e = s.desc e := rfl
@[simp] theorem modMgmt_port (f : Mgmt → Mgmt) (j : Fin 4) : (s.modMgmt f).port j = s.port j := rfl
@[simp] theorem modMgmt_slot (f : Mgmt → Mgmt) (j : Fin 4) (l : Fin 8) : (s.modMgmt f).slot j l = s.slot j l := rfl
@[simp] theorem modMgmt_tport (f : Mgmt → Mgmt) (j : Fin 4) : (s.modMgmt f).tport j = s.tport j := rfl
@[simp] theorem modMgmt_mon (f : Mgmt → Mgmt) (j : Fin 16) : (s.modMgmt f).mon j = s.mon j := rfl

@[simp] theorem modEng_eng (f : Engine → Engine) : (s.modEng f).eng = f s.eng := rfl
@[simp] theorem modEvc_evc (f : EventCtl → EventCtl) : (s.modEvc f).evc = f s.evc := rfl
@[simp] theorem modMgmt_mgmt (f : Mgmt → Mgmt) : (s.modMgmt f).mgmt = f s.mgmt := rfl

@[simp] theorem modDesc_desc_self (d : DescIdx) (f : Desc → Desc) : (s.modDesc d f).desc d = f (s.desc d) := by
  simp [modDesc, desc]

@[simp] theorem modDesc_desc_ne {d e : DescIdx} (f : Desc → Desc) (h : e ≠ d) : (s.modDesc d f).desc e = s.desc e := by
  simp [modDesc, desc, h]

theorem modDesc_desc (d e : DescIdx) (f : Desc → Desc) :
    (s.modDesc d f).desc e = if e = d then f (s.desc d) else s.desc e := by
  split
  · next h => subst h; simp
  · next h => simp [h]

@[simp] theorem modPort_port_self (d : Fin 4) (f : IPort → IPort) : (s.modPort d f).port d = f (s.port d) := by
  simp [modPort, port]

@[simp] theorem modPort_port_ne {d e : Fin 4} (f : IPort → IPort) (h : e ≠ d) : (s.modPort d f).port e = s.port e := by
  simp [modPort, port, h]

theorem modPort_port (d e : Fin 4) (f : IPort → IPort) :
    (s.modPort d f).port e = if e = d then f (s.port d) else s.port e := by
  split
  · next h => subst h; simp
  · next h => simp [h]

@[simp] theorem modTPort_tport_self (d : Fin 4) (f : TPort → TPort) : (s.modTPort d f).tport d = f (s.tport d) := by
  simp [modTPort, tport]

@[simp] theorem modTPort_tport_ne {d e : Fin 4} (f : TPort → TPort) (h : e ≠ d) : (s.modTPort d f).tport e = s.tport e := by
  simp [modTPort, tport, h]

theorem modTPort_tport (d e : Fin 4) (f : TPort → TPort) :
    (s.modTPort d f).tport e = if e = d then f (s.tport d) else s.tport e := by
  split
  · next h => subst h; simp
  · next h => simp [h]

@[simp] theorem modMon_mon_self (d : Fin 16) (f : Monitor → Monitor) : (s.modMon d f).mon d = f (s.mon d) := by
  simp [modMon, mon]

@[simp] theorem modMon_mon_ne {d e : Fin 16} (f : Monitor → Monitor) (h : e ≠ d) : (s.modMon d f).mon e = s.mon e := by
  simp [modMon, mon, h]

theorem modMon_mon (d e : Fin 16) (f : Monitor → Monitor) :
    (s.modMon d f).mon e = if e = d then f (s.mon d) else s.mon e := by
  split
  · next h => subst h; simp
  · next h => simp [h]

@[simp] theorem modSlot_slot_self (i : Fin 4) (k : Fin 8) (f : Slot → Slot) :
    (s.modSlot i k f).slot i k = f (s.slot i k) := by
  simp [modSlot, slot]

theorem modSlot_port (i j : Fin 4) (k : Fin 8) (f : Slot → Slot) :
    (s.modSlot i k f).port j =
      if j = i then { s.port i with slots := upd (s.port i).slots k (f (s.slot i k)) } else s.port j := by
  rw [modSlot, modPort_port]; rfl

theorem modSlot_slot (i j : Fin 4) (k l : Fin 8) (f : Slot → Slot) :
    (s.modSlot i k f).slot j l = if j = i ∧ l = k then f (s.slot i k) else s.slot j l := by
  rw [slot, modSlot_port]
  by_cases hj : j = i
  · subst hj
    by_cases hl : l = k
    · subst hl; simp [slot]
    · simp [slot, hl]
  · simp [hj, slot]

end State

@[simp] theorem raise_map (c : EventClass) (s : State) : (raise c s).map = s.map := rfl
@[simp] theorem raise_ports (c : EventClass) (s : State) : (raise c s).ports = s.ports := rfl
@[simp] theorem raise_tports (c : EventClass) (s : State) : (raise c s).tports = s.tports := rfl
@[simp] theorem raise_eng (c : EventClass) (s : State) : (raise c s).eng = s.eng := rfl
@[simp] theorem raise_mons (c : EventClass) (s : State) : (raise c s).mons = s.mons := rfl
@[simp] theorem raise_ticks (c : EventClass) (s : State) : (raise c s).ticks = s.ticks := rfl
@[simp] theorem raise_arrivals (c : EventClass) (s : State) : (raise c s).arrivals = s.arrivals := rfl
@[simp] theorem raise_mgmt (c : EventClass) (s : State) : (raise c s).mgmt = s.mgmt := rfl
@[simp] theorem raise_resetAsserted (c : EventClass) (s : State) : (raise c s).resetAsserted = s.resetAsserted := rfl
@[simp] theorem raise_freeDraws (c : EventClass) (s : State) : (raise c s).freeDraws = s.freeDraws := rfl
@[simp] theorem raise_pending (c : EventClass) (s : State) : (raise c s).pending = s.pending := rfl
@[simp] theorem raise_desc (c : EventClass) (s : State) (e : DescIdx) : (raise c s).desc e = s.desc e := rfl
@[simp] theorem raise_port (c : EventClass) (s : State) (j : Fin 4) : (raise c s).port j = s.port j := rfl
@[simp] theorem raise_slot (c : EventClass) (s : State) (j : Fin 4) (l : Fin 8) : (raise c s).slot j l = s.slot j l := rfl
@[simp] theorem raise_tport (c : EventClass) (s : State) (j : Fin 4) : (raise c s).tport j = s.tport j := rfl
@[simp] theorem raise_mon (c : EventClass) (s : State) (j : Fin 16) : (raise c s).mon j = s.mon j := rfl
@[simp] theorem raise_route (c : EventClass) (s : State) : (raise c s).evc.route = s.evc.route := rfl

/-- The class numbers of different classes differ (R178). -/
theorem EventClass.num_inj {c e : EventClass} (h : c.num = e.num) : c = e := by
  have h' := congrArg Fin.val h
  cases c <;> cases e <;> simp only [EventClass.num] at h' ⊢ <;> first
    | rfl
    | (congr 1; apply Fin.ext; omega)
    | (exfalso; omega)

/-- A set makes its class pending and leaves every other flag (R159, R158). -/
theorem isPending_raise (c e : EventClass) (s : State) :
    (raise c s).isPending e = if e = c then true else s.isPending e := by
  rw [State.isPending, raise, State.modEvc_evc, look_upd]
  by_cases h : e = c
  · subst h; simp
  · have : e.num ≠ c.num := fun q => h (EventClass.num_inj q)
    simp [h, this, State.isPending]

@[simp] theorem isPending_raise_self (c : EventClass) (s : State) : (raise c s).isPending c = true := by
  simp [isPending_raise]

@[simp] theorem isPending_raise_ne {c e : EventClass} (s : State) (h : e ≠ c) :
    (raise c s).isPending e = s.isPending e := by
  simp [isPending_raise, h]

end Sys2Proof.Machine
end

