-- ==== Sys2Proof/Laws/Command.lean ====
section
/-! SUPPORT. Taking and ending a command: what it touches, and a command taken on a state that is not busy. -/

namespace Sys2Proof.Machine

variable (s : State)

@[simp] theorem latchCommand_map (c : BitVec 8) : (latchCommand c s).map = s.map := rfl
@[simp] theorem latchCommand_ports (c : BitVec 8) : (latchCommand c s).ports = s.ports := rfl
@[simp] theorem latchCommand_tports (c : BitVec 8) : (latchCommand c s).tports = s.tports := rfl
@[simp] theorem latchCommand_eng (c : BitVec 8) : (latchCommand c s).eng = s.eng := rfl
@[simp] theorem latchCommand_mons (c : BitVec 8) : (latchCommand c s).mons = s.mons := rfl
@[simp] theorem latchCommand_ticks (c : BitVec 8) : (latchCommand c s).ticks = s.ticks := rfl
@[simp] theorem latchCommand_arrivals (c : BitVec 8) : (latchCommand c s).arrivals = s.arrivals := rfl
@[simp] theorem latchCommand_resetAsserted (c : BitVec 8) : (latchCommand c s).resetAsserted = s.resetAsserted := rfl
@[simp] theorem latchCommand_freeDraws (c : BitVec 8) : (latchCommand c s).freeDraws = s.freeDraws := rfl
@[simp] theorem latchCommand_pending (c : BitVec 8) : (latchCommand c s).pending = s.pending := rfl
@[simp] theorem latchCommand_evc (c : BitVec 8) : (latchCommand c s).evc = s.evc := rfl
@[simp] theorem latchCommand_desc (d : DescIdx) (c : BitVec 8) : (latchCommand c s).desc d = s.desc d := rfl
@[simp] theorem latchCommand_port (i : Fin 4) (c : BitVec 8) : (latchCommand c s).port i = s.port i := rfl
@[simp] theorem latchCommand_tport (t : Fin 4) (c : BitVec 8) : (latchCommand c s).tport t = s.tport t := rfl
@[simp] theorem latchCommand_mon (m : Fin 16) (c : BitVec 8) : (latchCommand c s).mon m = s.mon m := rfl
@[simp] theorem latchCommand_slot (i : Fin 4) (k : Fin 8) (c : BitVec 8) : (latchCommand c s).slot i k = s.slot i k := rfl
@[simp] theorem latchCommand_latched (c : BitVec 8) : (latchCommand c s).mgmt.latched = s.mgmt.param := rfl
@[simp] theorem latchCommand_budget (c : BitVec 8) : (latchCommand c s).mgmt.budget = s.mgmt.budget := rfl
@[simp] theorem latchCommand_retry (c : BitVec 8) : (latchCommand c s).mgmt.retry = s.mgmt.retry := rfl
@[simp] theorem latchCommand_command (c : BitVec 8) : (latchCommand c s).mgmt.command = c := rfl
@[simp] theorem latchCommand_isPending (c : BitVec 8) (e : EventClass) : (latchCommand c s).isPending e = s.isPending e := rfl

@[simp] theorem endCommand_map (e : CmdEnd) : (endCommand e s).map = s.map := rfl
@[simp] theorem endCommand_ports (e : CmdEnd) : (endCommand e s).ports = s.ports := rfl
@[simp] theorem endCommand_tports (e : CmdEnd) : (endCommand e s).tports = s.tports := rfl
@[simp] theorem endCommand_eng (e : CmdEnd) : (endCommand e s).eng = s.eng := rfl
@[simp] theorem endCommand_mons (e : CmdEnd) : (endCommand e s).mons = s.mons := rfl
@[simp] theorem endCommand_ticks (e : CmdEnd) : (endCommand e s).ticks = s.ticks := rfl
@[simp] theorem endCommand_arrivals (e : CmdEnd) : (endCommand e s).arrivals = s.arrivals := rfl
@[simp] theorem endCommand_resetAsserted (e : CmdEnd) : (endCommand e s).resetAsserted = s.resetAsserted := rfl
@[simp] theorem endCommand_freeDraws (e : CmdEnd) : (endCommand e s).freeDraws = s.freeDraws := rfl
@[simp] theorem endCommand_pending (e : CmdEnd) : (endCommand e s).pending = s.pending := rfl
@[simp] theorem endCommand_desc (d : DescIdx) (e : CmdEnd) : (endCommand e s).desc d = s.desc d := rfl
@[simp] theorem endCommand_port (i : Fin 4) (e : CmdEnd) : (endCommand e s).port i = s.port i := rfl
@[simp] theorem endCommand_tport (t : Fin 4) (e : CmdEnd) : (endCommand e s).tport t = s.tport t := rfl
@[simp] theorem endCommand_mon (m : Fin 16) (e : CmdEnd) : (endCommand e s).mon m = s.mon m := rfl
@[simp] theorem endCommand_slot (i : Fin 4) (k : Fin 8) (e : CmdEnd) : (endCommand e s).slot i k = s.slot i k := rfl
@[simp] theorem endCommand_busy (e : CmdEnd) : (endCommand e s).mgmt.busy = false := rfl
@[simp] theorem endCommand_budget (e : CmdEnd) : (endCommand e s).mgmt.budget = s.mgmt.budget := rfl
@[simp] theorem endCommand_route (e : CmdEnd) : (endCommand e s).evc.route = s.evc.route := rfl

/-- A COMMAND write is ignored with OVERRUN while CMD_BUSY is 1 (R171). -/
theorem writeCommand_busy {code : BitVec 8} {act : Action} (h : s.mgmt.busy = true) :
    writeCommand code act s = overrun s := by simp [writeCommand, h]

/-- A COMMAND write is taken while CMD_BUSY is 0 (R169): the command's own part runs on the latched state, and a command
that ends there is reported. -/
theorem writeCommand_taken {code : BitVec 8} {act : Action} {t : State} {e : CmdEnd} (h : s.mgmt.busy = false)
    (ha : act (latchCommand code s) = (t, some e)) : writeCommand code act s = endCommand e t := by
  simp [writeCommand, h, ha]

/-- The three ways a COMMAND write goes (R169, R171). -/
theorem writeCommand_cases (code : BitVec 8) (act : Action) :
    writeCommand code act s = overrun s ∨
      s.mgmt.busy = false ∧ ((∃ t e, act (latchCommand code s) = (t, some e) ∧ writeCommand code act s = endCommand e t) ∨
        ∃ t, act (latchCommand code s) = (t, none) ∧ writeCommand code act s = t) := by
  unfold writeCommand
  split
  · exact .inl rfl
  · next h =>
    refine .inr ⟨by simpa using h, ?_⟩
    rcases hact : act (latchCommand code s) with ⟨t, _ | e⟩
    · exact .inr ⟨t, rfl, rfl⟩
    · exact .inl ⟨t, e, rfl, rfl⟩

end Sys2Proof.Machine
end

