-- ==== Sys2Proof/Laws/Ports.lean ====
section
/-! SUPPORT. The release of held slots, port updates, and what they leave alone. -/

namespace Sys2Proof.Machine

variable (s : State)

@[simp] theorem release_map (sel : Hold → Bool) : (release sel s).map = s.map := rfl
@[simp] theorem release_tports (sel : Hold → Bool) : (release sel s).tports = s.tports := rfl
@[simp] theorem release_eng (sel : Hold → Bool) : (release sel s).eng = s.eng := rfl
@[simp] theorem release_mons (sel : Hold → Bool) : (release sel s).mons = s.mons := rfl
@[simp] theorem release_ticks (sel : Hold → Bool) : (release sel s).ticks = s.ticks := rfl
@[simp] theorem release_arrivals (sel : Hold → Bool) : (release sel s).arrivals = s.arrivals := rfl
@[simp] theorem release_evc (sel : Hold → Bool) : (release sel s).evc = s.evc := rfl
@[simp] theorem release_mgmt (sel : Hold → Bool) : (release sel s).mgmt = s.mgmt := rfl
@[simp] theorem release_resetAsserted (sel : Hold → Bool) : (release sel s).resetAsserted = s.resetAsserted := rfl
@[simp] theorem release_freeDraws (sel : Hold → Bool) : (release sel s).freeDraws = s.freeDraws := rfl
@[simp] theorem release_pending (sel : Hold → Bool) : (release sel s).pending = s.pending := rfl
@[simp] theorem release_desc (sel : Hold → Bool) (x : DescIdx) : (release sel s).desc x = s.desc x := rfl
@[simp] theorem release_tport (sel : Hold → Bool) (x : Fin 4) : (release sel s).tport x = s.tport x := rfl
@[simp] theorem release_mon (sel : Hold → Bool) (x : Fin 16) : (release sel s).mon x = s.mon x := rfl

@[simp] theorem release_port (sel : Hold → Bool) (i : Fin 4) :
    (release sel s).port i = releasePort sel (s.port i) := by simp [release, State.port]

section
variable (sel : Hold → Bool) (p : IPort)
@[simp] theorem releasePort_state : (releasePort sel p).state = p.state := rfl
@[simp] theorem releasePort_irst : (releasePort sel p).irst = p.irst := rfl
@[simp] theorem releasePort_nextPos : (releasePort sel p).nextPos = p.nextPos := rfl
@[simp] theorem releasePort_legQueues : (releasePort sel p).legQueues = p.legQueues := rfl
@[simp] theorem releasePort_answers : (releasePort sel p).answers = p.answers := rfl
@[simp] theorem releasePort_collision : (releasePort sel p).collision = p.collision := rfl
end

/-- A release marks the slots it names and leaves the others (R77). -/
theorem release_slot (sel : Hold → Bool) (i : Fin 4) (k : Fin 8) :
    (release sel s).slot i k =
      if (s.slot i k).named sel then { s.slot i k with released := true } else s.slot i k := by
  rw [State.slot, release_port, releasePort, look_vmap]; rfl

/-- A release changes no slot but its `released` mark. -/
theorem release_slot_eq (sel : Hold → Bool) (i : Fin 4) (k : Fin 8) :
    ∃ b, (release sel s).slot i k = { s.slot i k with released := b } := by
  rw [release_slot]; split
  · exact ⟨true, rfl⟩
  · exact ⟨(s.slot i k).released, rfl⟩

theorem mem_insertByPos (slots : Vector Slot 8) (k j : Fin 8) (q : List (Fin 8)) :
    j ∈ insertByPos slots k q ↔ j = k ∨ j ∈ q := by
  induction q with
  | nil => simp [insertByPos]
  | cons x q ih =>
    simp only [insertByPos]
    split
    · simp
    · simp only [List.mem_cons, ih]; exact or_left_comm

/-- After a release a slot waits for its resolution exactly if it did before or the release names it (R77). -/
theorem mem_releasePort_resQueue (sel : Hold → Bool) (p : IPort) (j : Fin 8) :
    j ∈ (releasePort sel p).resQueue ↔ j ∈ p.resQueue ∨ (look p.slots j).named sel = true := by
  have key : ∀ (ks q : List (Fin 8)),
      (j ∈ ks.foldl (fun q k => insertByPos p.slots k q) q ↔ j ∈ q ∨ j ∈ ks) := by
    intro ks
    induction ks with
    | nil => intro q; simp
    | cons k ks ih =>
      intro q
      rw [List.foldl_cons, ih, mem_insertByPos, List.mem_cons, or_comm (a := j = k), or_assoc]
  simp [releasePort, key, mem_slotIdxs]

@[simp] theorem formResponse_map (i : Fin 4) (k : Fin 8) (c : RespCode) : (formResponse i k c s).map = s.map := rfl
@[simp] theorem formResponse_tports (i : Fin 4) (k : Fin 8) (c : RespCode) : (formResponse i k c s).tports = s.tports := rfl
@[simp] theorem formResponse_eng (i : Fin 4) (k : Fin 8) (c : RespCode) : (formResponse i k c s).eng = s.eng := rfl
@[simp] theorem formResponse_mons (i : Fin 4) (k : Fin 8) (c : RespCode) : (formResponse i k c s).mons = s.mons := rfl
@[simp] theorem formResponse_ticks (i : Fin 4) (k : Fin 8) (c : RespCode) : (formResponse i k c s).ticks = s.ticks := rfl
@[simp] theorem formResponse_arrivals (i : Fin 4) (k : Fin 8) (c : RespCode) : (formResponse i k c s).arrivals = s.arrivals := rfl
@[simp] theorem formResponse_evc (i : Fin 4) (k : Fin 8) (c : RespCode) : (formResponse i k c s).evc = s.evc := rfl
@[simp] theorem formResponse_mgmt (i : Fin 4) (k : Fin 8) (c : RespCode) : (formResponse i k c s).mgmt = s.mgmt := rfl
@[simp] theorem formResponse_resetAsserted (i : Fin 4) (k : Fin 8) (c : RespCode) : (formResponse i k c s).resetAsserted = s.resetAsserted := rfl
@[simp] theorem formResponse_freeDraws (i : Fin 4) (k : Fin 8) (c : RespCode) : (formResponse i k c s).freeDraws = s.freeDraws := rfl
@[simp] theorem formResponse_pending (i : Fin 4) (k : Fin 8) (c : RespCode) : (formResponse i k c s).pending = s.pending := rfl
@[simp] theorem formResponse_desc (i : Fin 4) (k : Fin 8) (c : RespCode) (x : DescIdx) : (formResponse i k c s).desc x = s.desc x := rfl
@[simp] theorem formResponse_tport (i : Fin 4) (k : Fin 8) (c : RespCode) (x : Fin 4) : (formResponse i k c s).tport x = s.tport x := rfl
@[simp] theorem formResponse_mon (i : Fin 4) (k : Fin 8) (c : RespCode) (x : Fin 16) : (formResponse i k c s).mon x = s.mon x := rfl

end Sys2Proof.Machine
end

