-- ==== Sys2Proof/Laws/Engine.lean ====
section
/-! SUPPORT. The shared operations of the engine and the map: what each does and what it leaves alone. -/

namespace Sys2Proof.Machine

variable (s : State)

@[simp] theorem endNotice_map (j : Job) : (endNotice j s).map = s.map := by unfold endNotice; split <;> rfl
@[simp] theorem endNotice_ports (j : Job) : (endNotice j s).ports = s.ports := by unfold endNotice; split <;> rfl
@[simp] theorem endNotice_tports (j : Job) : (endNotice j s).tports = s.tports := by unfold endNotice; split <;> rfl
@[simp] theorem endNotice_eng (j : Job) : (endNotice j s).eng = s.eng := by unfold endNotice; split <;> rfl
@[simp] theorem endNotice_ticks (j : Job) : (endNotice j s).ticks = s.ticks := by unfold endNotice; split <;> rfl
@[simp] theorem endNotice_arrivals (j : Job) : (endNotice j s).arrivals = s.arrivals := by unfold endNotice; split <;> rfl
@[simp] theorem endNotice_evc (j : Job) : (endNotice j s).evc = s.evc := by unfold endNotice; split <;> rfl
@[simp] theorem endNotice_mgmt (j : Job) : (endNotice j s).mgmt = s.mgmt := by unfold endNotice; split <;> rfl
@[simp] theorem endNotice_resetAsserted (j : Job) : (endNotice j s).resetAsserted = s.resetAsserted := by unfold endNotice; split <;> rfl
@[simp] theorem endNotice_freeDraws (j : Job) : (endNotice j s).freeDraws = s.freeDraws := by unfold endNotice; split <;> rfl
@[simp] theorem endNotice_pending (j : Job) : (endNotice j s).pending = s.pending := by unfold endNotice; split <;> rfl
@[simp] theorem endNotice_desc (j : Job) (x : DescIdx) : (endNotice j s).desc x = s.desc x := by unfold endNotice; split <;> rfl
@[simp] theorem endNotice_port (j : Job) (x : Fin 4) : (endNotice j s).port x = s.port x := by unfold endNotice; split <;> rfl
@[simp] theorem endNotice_tport (j : Job) (x : Fin 4) : (endNotice j s).tport x = s.tport x := by unfold endNotice; split <;> rfl

/-- The notice of a job's end clears at most one idle job (R151). -/
theorem endNotice_mon (j : Job) (m : Fin 16) :
    (endNotice j s).mon m =
      if j.origin = .monitorIdle m ∧ (s.mon m).idleJob = some j.id then { s.mon m with idleJob := none }
      else s.mon m := by
  unfold endNotice
  split
  · next n h =>
    rw [State.modMon_mon]
    by_cases hm : m = n
    · subst hm; simp [h]
    · have : j.origin ≠ .monitorIdle m := by rw [h]; intro e; injection e with e; exact hm e.symm
      simp [hm, this]
  · next n h => simp [h]
  · next h => simp [h]

@[simp] theorem endQueued_ports (j : Job) (e : Ending) : (endQueued j e s).ports = s.ports := by simp [endQueued, writeOutcome]
@[simp] theorem endQueued_tports (j : Job) (e : Ending) : (endQueued j e s).tports = s.tports := by simp [endQueued, writeOutcome]
@[simp] theorem endQueued_ticks (j : Job) (e : Ending) : (endQueued j e s).ticks = s.ticks := by simp [endQueued, writeOutcome]
@[simp] theorem endQueued_arrivals (j : Job) (e : Ending) : (endQueued j e s).arrivals = s.arrivals := by simp [endQueued, writeOutcome]
@[simp] theorem endQueued_mgmt (j : Job) (e : Ending) : (endQueued j e s).mgmt = s.mgmt := by simp [endQueued, writeOutcome]
@[simp] theorem endQueued_resetAsserted (j : Job) (e : Ending) : (endQueued j e s).resetAsserted = s.resetAsserted := by simp [endQueued, writeOutcome]
@[simp] theorem endQueued_freeDraws (j : Job) (e : Ending) : (endQueued j e s).freeDraws = s.freeDraws := by simp [endQueued, writeOutcome]
@[simp] theorem endQueued_pending (j : Job) (e : Ending) : (endQueued j e s).pending = s.pending := by simp [endQueued, writeOutcome]
@[simp] theorem endQueued_port (j : Job) (e : Ending) (x : Fin 4) : (endQueued j e s).port x = s.port x := by
  simp [State.port]
@[simp] theorem endQueued_tport (j : Job) (e : Ending) (x : Fin 4) : (endQueued j e s).tport x = s.tport x := by
  simp [State.tport]

/-- A queued job's end leaves the engine but for the job (R104). -/
@[simp] theorem endQueued_eng (j : Job) (e : Ending) :
    (endQueued j e s).eng = { s.eng with queue := s.eng.queue.eraseP fun q => decide (q.id = j.id) } := by
  simp [endQueued, writeOutcome]

/-- A queued job's end writes its outcome and touches nothing else in the map (R111). -/
theorem endQueued_desc (j : Job) (e : Ending) (d : DescIdx) :
    (endQueued j e s).desc d =
      if d = ordIdx j.desc then { s.desc d with outcome := e.outcome } else s.desc d := by
  simp only [endQueued, writeOutcome, raise_desc, endNotice_desc, State.modDesc_desc, State.modEng_desc]
  split
  · next h => subst h; rfl
  · rfl

@[simp] theorem endQueued_mon (j : Job) (e : Ending) (m : Fin 16) :
    (endQueued j e s).mon m = (endNotice j s).mon m := by
  rw [endQueued, raise_mon, endNotice_mon, endNotice_mon]; rfl

@[simp] theorem endActive_tports (e : Ending) : (endActive e s).tports = s.tports := by unfold endActive; split <;> simp
@[simp] theorem endActive_ticks (e : Ending) : (endActive e s).ticks = s.ticks := by unfold endActive; split <;> simp
@[simp] theorem endActive_arrivals (e : Ending) : (endActive e s).arrivals = s.arrivals := by unfold endActive; split <;> simp
@[simp] theorem endActive_mgmt (e : Ending) : (endActive e s).mgmt = s.mgmt := by unfold endActive; split <;> simp
@[simp] theorem endActive_resetAsserted (e : Ending) : (endActive e s).resetAsserted = s.resetAsserted := by unfold endActive; split <;> simp
@[simp] theorem endActive_freeDraws (e : Ending) : (endActive e s).freeDraws = s.freeDraws := by unfold endActive; split <;> simp
@[simp] theorem endActive_pending (e : Ending) : (endActive e s).pending = s.pending := by unfold endActive; split <;> simp
@[simp] theorem endActive_tport (e : Ending) (x : Fin 4) : (endActive e s).tport x = s.tport x := by
  simp [State.tport]

theorem endActive_none (e : Ending) (h : s.eng.active = none) : endActive e s = s := by simp [endActive, h]

/-- The engine when the active job has ended (R111, R112). -/
@[simp] theorem endActive_eng (e : Ending) :
    (endActive e s).eng = if s.eng.active = none then s.eng else s.eng.afterJob := by
  unfold endActive; split
  · next h => simp [h]
  · next j h => simp [h]

/-- The map when the active job has ended: the outcome is written, and a MIGRATING descriptor of a started job is
LIVE (R111). -/
theorem endActive_desc (e : Ending) {j : Job} (h : s.eng.active = some j) (d : DescIdx) :
    (endActive e s).desc d =
      if d = ordIdx j.desc then
        { s.desc d with
          outcome := e.outcome
          state := if s.eng.started = true ∧ (s.desc d).state = .migrating then .live else (s.desc d).state }
      else s.desc d := by
  simp only [endActive, h, State.modEng_desc, raise_desc, release_desc, endNotice_desc, State.modDesc_desc]
  split
  · next hd => subst hd; rfl
  · rfl

/-- A descriptor after the end of the active job differs at most in its outcome and in becoming LIVE. -/
theorem endActive_desc_eq (e : Ending) (d : DescIdx) :
    ∃ o st, (endActive e s).desc d = { s.desc d with outcome := o, state := st } ∧
      (st = (s.desc d).state ∨ ((s.desc d).state = .migrating ∧ st = .live)) := by
  cases h : s.eng.active with
  | none => exact ⟨(s.desc d).outcome, (s.desc d).state, by rw [endActive_none s e h], .inl rfl⟩
  | some j =>
    rw [endActive_desc s e h]
    split
    · refine ⟨_, _, rfl, ?_⟩
      split
      · next hc => exact .inr ⟨hc.2, rfl⟩
      · exact .inl rfl
    · exact ⟨(s.desc d).outcome, (s.desc d).state, rfl, .inl rfl⟩

/-- The ports when the active job has ended: the writes held on its lines are released (R129). -/
theorem endActive_ports (e : Ending) {j : Job} (h : s.eng.active = some j) :
    (endActive e s).ports = (release (Hold.onDescLine (ordIdx j.desc)) s).ports := by
  simp [endActive, h, release]

/-- The monitors when the active job has ended: at most its notice is taken (R151). -/
theorem endActive_mon (e : Ending) {j : Job} (h : s.eng.active = some j) (m : Fin 16) :
    (endActive e s).mon m = (endNotice j s).mon m := by
  simp only [endActive, h, State.modEng_mon, raise_mon, release_mon, endNotice_mon, State.modDesc_mon]
  rfl

/-- A monitor after a job's end differs at most in its idle job. -/
theorem endNotice_mon_eq (j : Job) (m : Fin 16) :
    (endNotice j s).mon m = s.mon m ∨ (endNotice j s).mon m = { s.mon m with idleJob := none } := by
  rw [endNotice_mon]; split
  · exact .inr rfl
  · exact .inl rfl

theorem endActive_mon_eq (e : Ending) (m : Fin 16) :
    (endActive e s).mon m = s.mon m ∨ (endActive e s).mon m = { s.mon m with idleJob := none } := by
  cases h : s.eng.active with
  | none => rw [endActive_none s e h]; exact .inl rfl
  | some j => rw [endActive_mon s e h]; exact endNotice_mon_eq s j m

/-! ## The engine's own steps -/

/-- The start checks of JOB_ACTIVATE end the job or change nothing (R110). -/
theorem takeStartChecks_cases :
    takeStartChecks s = s ∨ ∃ r, takeStartChecks s = endActive (.failed r 0) s := by
  unfold takeStartChecks
  split
  · exact .inl rfl
  · split
    · split
      · exact .inr ⟨_, rfl⟩
      · exact .inl rfl
      · exact .inl rfl
    · exact .inl rfl

/-- The engine with its head job active in STARTING (R109). -/
def Engine.activated (g : Engine) (j : Job) (rest : List Job) : Engine :=
  { g with queue := rest, active := some j, started := false, state := .starting }

/-- An activation takes the head of the queue from an IDLE engine, or changes nothing (R109). -/
theorem takeHead_cases (checks : State → State) :
    takeHead checks s = s ∨ ∃ j rest, s.eng.queue = j :: rest ∧ s.eng.state = .idle ∧ s.eng.haltPending = false ∧
      takeHead checks s = checks (s.modEng fun g => g.activated j rest) := by
  unfold takeHead
  split
  · exact .inl rfl
  · next j rest h =>
    split
    · next hc => exact .inr ⟨j, rest, h, hc.1, hc.2, rfl⟩
    · exact .inl rfl

theorem activateJob_cases :
    activateJob s = s ∨ ∃ j rest, s.eng.queue = j :: rest ∧ s.eng.state = .idle ∧ s.eng.haltPending = false ∧
      activateJob s = takeStartChecks (s.modEng fun g => g.activated j rest) := takeHead_cases s takeStartChecks

theorem activateAtOnce_cases :
    activateAtOnce s = s ∨ ∃ j rest, s.eng.queue = j :: rest ∧ s.eng.state = .idle ∧ s.eng.haltPending = false ∧
      activateAtOnce s = beginJob (s.modEng fun g => g.activated j rest) := takeHead_cases s beginJob

/-- The engine that starts copying (R110). -/
def Engine.begun (g : Engine) : Engine :=
  { g with
    started := true, cursor := 0, lineInFlight := none, lineStep := none, lineData := none, retryCount := 0
    state := .copying }

/-- A job in STARTING starts, ends, or nothing changes (R110). -/
theorem beginJob_cases :
    beginJob s = s ∨ (∃ r, beginJob s = endActive (.failed r 0) s) ∨
      ∃ j, s.eng.active = some j ∧ s.eng.state = .starting ∧ startVerdict (s.desc (ordIdx j.desc)) j = .pass ∧
        beginJob s =
          (s.modDesc (ordIdx j.desc) fun x => { x with state := .migrating }).modEng Engine.begun := by
  unfold beginJob
  split
  · exact .inl rfl
  · next j h =>
    split
    · next hs =>
      split
      · exact .inr (.inl ⟨_, rfl⟩)
      · exact .inl rfl
      · next hv => exact .inr (.inr ⟨j, h, hs, hv, rfl⟩)
    · exact .inl rfl

/-- The start checks at a change of a descriptor are those of JOB_START for the job that names it, and nothing for any
other (R110). -/
theorem recheckStart_cases (d : DescIdx) :
    recheckStart d s = s ∨
      (∃ j, s.eng.active = some j ∧ ordIdx j.desc = d) ∧ recheckStart d s = beginJob s := by
  unfold recheckStart
  split
  · next h => exact .inr ⟨by simpa using h, rfl⟩
  · exact .inl rfl

/-- A descriptor that passes the start checks is LIVE and not switching (R110, R12). -/
theorem startVerdict_pass {x : Desc} {j : Job} (h : startVerdict x j = .pass) :
    x.state = .live ∧ x.switching = false ∧ x.read ≠ .fault ∧
      x.windows.any (fun w => j.dest.overlaps w x.size) = false ∧ j.dest.fits x.size = true := by
  unfold startVerdict at h
  split at h
  · cases h
  · next h1 =>
    split at h
    · cases h
    · next h2 =>
      split at h
      · cases h
      · next h3 =>
        split at h
        · cases h
        · next h4 =>
          split at h
          · next h5 => exact ⟨by simpa using h1, by simpa using h2, h3, by simpa using h4, h5⟩
          · cases h

@[simp] theorem takeStartChecks_tports : (takeStartChecks s).tports = s.tports := by
  rcases takeStartChecks_cases s with h | ⟨r, h⟩ <;> rw [h]; simp
@[simp] theorem takeStartChecks_ticks : (takeStartChecks s).ticks = s.ticks := by
  rcases takeStartChecks_cases s with h | ⟨r, h⟩ <;> rw [h]; simp
@[simp] theorem takeStartChecks_arrivals : (takeStartChecks s).arrivals = s.arrivals := by
  rcases takeStartChecks_cases s with h | ⟨r, h⟩ <;> rw [h]; simp
@[simp] theorem takeStartChecks_mgmt : (takeStartChecks s).mgmt = s.mgmt := by
  rcases takeStartChecks_cases s with h | ⟨r, h⟩ <;> rw [h]; simp
@[simp] theorem takeStartChecks_resetAsserted : (takeStartChecks s).resetAsserted = s.resetAsserted := by
  rcases takeStartChecks_cases s with h | ⟨r, h⟩ <;> rw [h]; simp
@[simp] theorem takeStartChecks_freeDraws : (takeStartChecks s).freeDraws = s.freeDraws := by
  rcases takeStartChecks_cases s with h | ⟨r, h⟩ <;> rw [h]; simp
@[simp] theorem takeStartChecks_pending : (takeStartChecks s).pending = s.pending := by
  rcases takeStartChecks_cases s with h | ⟨r, h⟩ <;> rw [h]; simp
@[simp] theorem activateJob_tports : (activateJob s).tports = s.tports := by
  rcases activateJob_cases s with h | ⟨j, rest, _, _, _, h⟩ <;> rw [h]; simp
@[simp] theorem activateJob_ticks : (activateJob s).ticks = s.ticks := by
  rcases activateJob_cases s with h | ⟨j, rest, _, _, _, h⟩ <;> rw [h]; simp
@[simp] theorem activateJob_arrivals : (activateJob s).arrivals = s.arrivals := by
  rcases activateJob_cases s with h | ⟨j, rest, _, _, _, h⟩ <;> rw [h]; simp
@[simp] theorem activateJob_mgmt : (activateJob s).mgmt = s.mgmt := by
  rcases activateJob_cases s with h | ⟨j, rest, _, _, _, h⟩ <;> rw [h]; simp
@[simp] theorem activateJob_resetAsserted : (activateJob s).resetAsserted = s.resetAsserted := by
  rcases activateJob_cases s with h | ⟨j, rest, _, _, _, h⟩ <;> rw [h]; simp
@[simp] theorem activateJob_freeDraws : (activateJob s).freeDraws = s.freeDraws := by
  rcases activateJob_cases s with h | ⟨j, rest, _, _, _, h⟩ <;> rw [h]; simp
@[simp] theorem activateJob_pending : (activateJob s).pending = s.pending := by
  rcases activateJob_cases s with h | ⟨j, rest, _, _, _, h⟩ <;> rw [h]; simp
@[simp] theorem beginJob_tports : (beginJob s).tports = s.tports := by
  rcases beginJob_cases s with h | ⟨r, h⟩ | ⟨j, _, _, _, h⟩ <;> rw [h] <;> simp
@[simp] theorem beginJob_ticks : (beginJob s).ticks = s.ticks := by
  rcases beginJob_cases s with h | ⟨r, h⟩ | ⟨j, _, _, _, h⟩ <;> rw [h] <;> simp
@[simp] theorem beginJob_arrivals : (beginJob s).arrivals = s.arrivals := by
  rcases beginJob_cases s with h | ⟨r, h⟩ | ⟨j, _, _, _, h⟩ <;> rw [h] <;> simp
@[simp] theorem beginJob_mgmt : (beginJob s).mgmt = s.mgmt := by
  rcases beginJob_cases s with h | ⟨r, h⟩ | ⟨j, _, _, _, h⟩ <;> rw [h] <;> simp
@[simp] theorem beginJob_resetAsserted : (beginJob s).resetAsserted = s.resetAsserted := by
  rcases beginJob_cases s with h | ⟨r, h⟩ | ⟨j, _, _, _, h⟩ <;> rw [h] <;> simp
@[simp] theorem beginJob_freeDraws : (beginJob s).freeDraws = s.freeDraws := by
  rcases beginJob_cases s with h | ⟨r, h⟩ | ⟨j, _, _, _, h⟩ <;> rw [h] <;> simp
@[simp] theorem beginJob_pending : (beginJob s).pending = s.pending := by
  rcases beginJob_cases s with h | ⟨r, h⟩ | ⟨j, _, _, _, h⟩ <;> rw [h] <;> simp
@[simp] theorem recheckStart_tports (d : DescIdx) : (recheckStart d s).tports = s.tports := by
  rcases recheckStart_cases s d with h | ⟨_, h⟩ <;> rw [h]; simp
@[simp] theorem recheckStart_ticks (d : DescIdx) : (recheckStart d s).ticks = s.ticks := by
  rcases recheckStart_cases s d with h | ⟨_, h⟩ <;> rw [h]; simp
@[simp] theorem recheckStart_arrivals (d : DescIdx) : (recheckStart d s).arrivals = s.arrivals := by
  rcases recheckStart_cases s d with h | ⟨_, h⟩ <;> rw [h]; simp
@[simp] theorem recheckStart_mgmt (d : DescIdx) : (recheckStart d s).mgmt = s.mgmt := by
  rcases recheckStart_cases s d with h | ⟨_, h⟩ <;> rw [h]; simp
@[simp] theorem recheckStart_resetAsserted (d : DescIdx) : (recheckStart d s).resetAsserted = s.resetAsserted := by
  rcases recheckStart_cases s d with h | ⟨_, h⟩ <;> rw [h]; simp
@[simp] theorem recheckStart_freeDraws (d : DescIdx) : (recheckStart d s).freeDraws = s.freeDraws := by
  rcases recheckStart_cases s d with h | ⟨_, h⟩ <;> rw [h]; simp
@[simp] theorem recheckStart_pending (d : DescIdx) : (recheckStart d s).pending = s.pending := by
  rcases recheckStart_cases s d with h | ⟨_, h⟩ <;> rw [h]; simp
@[simp] theorem activateAtOnce_tports : (activateAtOnce s).tports = s.tports := by
  rcases activateAtOnce_cases s with h | ⟨j, rest, _, _, _, h⟩ <;> rw [h]; simp
@[simp] theorem activateAtOnce_ticks : (activateAtOnce s).ticks = s.ticks := by
  rcases activateAtOnce_cases s with h | ⟨j, rest, _, _, _, h⟩ <;> rw [h]; simp
@[simp] theorem activateAtOnce_arrivals : (activateAtOnce s).arrivals = s.arrivals := by
  rcases activateAtOnce_cases s with h | ⟨j, rest, _, _, _, h⟩ <;> rw [h]; simp
@[simp] theorem activateAtOnce_mgmt : (activateAtOnce s).mgmt = s.mgmt := by
  rcases activateAtOnce_cases s with h | ⟨j, rest, _, _, _, h⟩ <;> rw [h]; simp
@[simp] theorem activateAtOnce_resetAsserted : (activateAtOnce s).resetAsserted = s.resetAsserted := by
  rcases activateAtOnce_cases s with h | ⟨j, rest, _, _, _, h⟩ <;> rw [h]; simp
@[simp] theorem activateAtOnce_freeDraws : (activateAtOnce s).freeDraws = s.freeDraws := by
  rcases activateAtOnce_cases s with h | ⟨j, rest, _, _, _, h⟩ <;> rw [h]; simp
@[simp] theorem activateAtOnce_pending : (activateAtOnce s).pending = s.pending := by
  rcases activateAtOnce_cases s with h | ⟨j, rest, _, _, _, h⟩ <;> rw [h]; simp
@[simp] theorem beginLine_tports : (beginLine s).tports = s.tports := by
  unfold beginLine; split <;> rfl
@[simp] theorem beginLine_ticks : (beginLine s).ticks = s.ticks := by
  unfold beginLine; split <;> rfl
@[simp] theorem beginLine_arrivals : (beginLine s).arrivals = s.arrivals := by
  unfold beginLine; split <;> rfl
@[simp] theorem beginLine_mgmt : (beginLine s).mgmt = s.mgmt := by
  unfold beginLine; split <;> rfl
@[simp] theorem beginLine_resetAsserted : (beginLine s).resetAsserted = s.resetAsserted := by
  unfold beginLine; split <;> rfl
@[simp] theorem beginLine_freeDraws : (beginLine s).freeDraws = s.freeDraws := by
  unfold beginLine; split <;> rfl
@[simp] theorem beginLine_pending : (beginLine s).pending = s.pending := by
  unfold beginLine; split <;> rfl
@[simp] theorem beginLine_map : (beginLine s).map = s.map := by
  unfold beginLine; split <;> rfl
@[simp] theorem beginLine_ports : (beginLine s).ports = s.ports := by
  unfold beginLine; split <;> rfl
@[simp] theorem beginLine_mons : (beginLine s).mons = s.mons := by
  unfold beginLine; split <;> rfl
@[simp] theorem beginLine_evc : (beginLine s).evc = s.evc := by
  unfold beginLine; split <;> rfl

end Sys2Proof.Machine
end

