-- ==== Sys2Proof/Laws/Due.lean ====
section
/-! SUPPORT. The part's own due events: which they are, and that the engine's steps do something exactly when they are
due. -/

namespace Sys2Proof.Machine

variable (s : State)

theorem takeStartChecks_queue : (takeStartChecks s).eng.queue = s.eng.queue := by
  rcases takeStartChecks_cases s with h | ⟨r, h⟩
  · rw [h]
  · rw [h, endActive_eng]; split
    · rfl
    · simp only [Engine.afterJob]; split
      · rfl
      · split <;> rfl

/-- When the active job has ended there is none (R111). -/
theorem afterJob_active (g : Engine) : g.afterJob.active = none := by
  simp only [Engine.afterJob]; split
  · rfl
  · split <;> rfl

/-- An activation is due exactly when it does something (R109). -/
theorem activationDue_iff : s.activationDue = true ↔ activateJob s ≠ s := by
  unfold State.activationDue activateJob takeHead
  rcases hq : s.eng.queue with _ | ⟨j, rest⟩
  · simp
  · simp only [List.isEmpty_cons, Bool.not_false, Bool.and_true, Bool.and_eq_true, decide_eq_true_eq,
      Bool.not_eq_true']
    split
    · next h =>
      refine ⟨fun _ e => ?_, fun _ => h⟩
      have := congrArg (fun t : State => t.eng.queue.length) e
      rw [takeStartChecks_queue] at this
      simp [hq] at this
    · next h => exact ⟨fun k => absurd k h, fun k => absurd rfl k⟩

/-- A start is due exactly when the active job starts or fails its start checks (R110). -/
theorem startDue_iff : s.startDue = true ↔ beginJob s ≠ s := by
  unfold State.startDue beginJob
  rcases hj : s.eng.active with _ | j
  · simp
  · simp only [Bool.and_eq_true, decide_eq_true_eq]
    by_cases hs : s.eng.state = .starting
    · simp only [hs, true_and, if_true]
      rcases hv : startVerdict (s.desc (ordIdx j.desc)) j with _ | _ | r
      · refine ⟨fun _ e => ?_, fun _ => by simp⟩
        have := congrArg (fun t : State => t.eng.state) e
        simp [hs] at this
      · simp
      · refine ⟨fun _ e => ?_, fun _ => by simp⟩
        have := congrArg (fun t : State => t.eng.active) e
        simp [hj, afterJob_active] at this
    · simp [hs]

/-- A line is due exactly when it begins (R123, R134). -/
theorem lineDue_iff : s.lineDue = true ↔ beginLine s ≠ s := by
  unfold beginLine
  split
  · next h =>
    refine ⟨fun _ e => ?_, fun _ => h⟩
    have hstep := congrArg (fun t : State => t.eng.lineStep) e
    have hline := congrArg (fun t : State => t.eng.lineInFlight) e
    simp only [State.modEng_eng] at hstep hline
    simp only [State.lineDue, Bool.or_eq_true] at h
    rcases h with h | h
    · unfold State.lineReady at h
      split at h
      · cases h
      · simp only [Bool.and_eq_true, ← hline] at h; simp at h
    · unfold State.retryReady at h
      simp only [Bool.and_eq_true, decide_eq_true_eq, ← hstep] at h; simp at h
  · next h => exact ⟨fun k => absurd k h, fun k => absurd rfl k⟩

/-- The due events: an activation, a start, a line, the requests on their way, and the arrivals at monitors that have no
request on its way. -/
theorem mem_dueEvents (e : PartEvent) :
    e ∈ dueEvents s ↔
      match e with
      | .activate => s.activationDue = true
      | .start => s.startDue = true
      | .line => s.lineDue = true
      | .ask m => (s.mon m).ask.isSome = true
      | .arrive a => a ∈ s.arrivals ∧ (s.mon a.monitor).ask.isNone = true := by
  have cond {b : Bool} {x : PartEvent} : (e ∈ if b = true then [x] else []) ↔ b = true ∧ e = x := by
    cases b <;> simp
  simp only [dueEvents, List.mem_append, cond, List.mem_map, List.mem_filter, mem_monitors, true_and]
  cases e <;> simp

/-- With no command waiting the part takes one of its due events; with none due a microsecond passes. -/
theorem partStep_cases :
    (s.resetAsserted = true ∧ partStep s = s) ∨
      s.resetAsserted = false ∧
        ((dueEvents s = [] ∧ partStep s = microsecond s) ∨
          ∃ e ∈ dueEvents s, ∃ n, partStep s = takeEvent e { s with freeDraws := n }) := by
  unfold partStep
  split
  · next h => exact .inl ⟨h, rfl⟩
  · next h =>
    refine .inr ⟨by simpa using h, ?_⟩
    split
    · next hd => exact .inl ⟨hd, rfl⟩
    · next e hd => exact .inr ⟨e, by simp [hd], s.freeDraws, rfl⟩
    · next e es _ hd =>
      refine .inr ⟨chosenEvent s.freeDraws e es, ?_, s.freeDraws + 1, rfl⟩
      rw [hd, chosenEvent, List.getD_eq_getElem?_getD]
      have hlt : Config.freeRank s.freeDraws 0 % (es.length + 1) < (e :: es).length := by
        rw [List.length_cons]; exact Nat.mod_lt _ (Nat.succ_pos _)
      rw [List.getElem?_eq_getElem hlt, Option.getD_some]
      exact List.getElem_mem hlt

end Sys2Proof.Machine
end

