-- ==== Sys2Proof/Laws/Surround.lean ====
section
/-! SUPPORT. What the operations of the map, the engine, the monitors and the Initiator Ports leave alone: the Target
Ports, the window, the tick sources, RESET_N and the queue of waiting commands. -/

namespace Sys2Proof.Machine

variable {s t u : State}

theorem SameSurround.refl : SameSurround s s := ⟨rfl, rfl, rfl, rfl, rfl, rfl⟩

theorem SameSurround.trans (h : SameSurround s t) (k : SameSurround t u) : SameSurround s u :=
  ⟨k.1.trans h.1, k.2.1.trans h.2.1, k.2.2.1.trans h.2.2.1, k.2.2.2.1.trans h.2.2.2.1,
    k.2.2.2.2.1.trans h.2.2.2.2.1, k.2.2.2.2.2.trans h.2.2.2.2.2⟩

/-- An operation that keeps the surround, taken along a list, keeps it. -/
theorem surround_foldl {α : Type} (f : State → α → State) (h : ∀ s a, SameSurround s (f s a)) :
    ∀ (l : List α) (s : State), SameSurround s (l.foldl f s)
  | [], _ => .refl
  | a :: l, s => (h s a).trans (surround_foldl f h l (f s a))

/-! ## Updates of one record -/

theorem surround_modDesc (d : DescIdx) (f : Desc → Desc) : SameSurround s (s.modDesc d f) := .refl
theorem surround_modPort (i : Fin 4) (f : IPort → IPort) : SameSurround s (s.modPort i f) := .refl
theorem surround_modSlot (i : Fin 4) (k : Fin 8) (f : Slot → Slot) : SameSurround s (s.modSlot i k f) := .refl
theorem surround_modEng (f : Engine → Engine) : SameSurround s (s.modEng f) := .refl
theorem surround_modMon (m : Fin 16) (f : Monitor → Monitor) : SameSurround s (s.modMon m f) := .refl
theorem surround_raise (c : EventClass) : SameSurround s (raise c s) := .refl
theorem surround_release (sel : Hold → Bool) : SameSurround s (release sel s) := .refl

/-! ## The engine -/

theorem surround_endQueued (j : Job) (e : Ending) : SameSurround s (endQueued j e s) := by
  simp [SameSurround]

theorem surround_endActive (e : Ending) : SameSurround s (endActive e s) := by
  simp [SameSurround]

theorem surround_takeStartChecks : SameSurround s (takeStartChecks s) := by
  simp [SameSurround]

theorem surround_activateJob : SameSurround s (activateJob s) := by
  simp [SameSurround]

theorem surround_beginJob : SameSurround s (beginJob s) := by
  simp [SameSurround]

theorem surround_recheckStart (d : DescIdx) : SameSurround s (recheckStart d s) := by
  simp [SameSurround]

theorem surround_activateAtOnce : SameSurround s (activateAtOnce s) := by
  simp [SameSurround]

theorem surround_beginLine : SameSurround s (beginLine s) := by
  simp [SameSurround]

theorem surround_enqueue (d : Fin 64) (w : Window) (m : Mode) (o : Origin) : SameSurround s (enqueue d w m o s) := .refl

theorem surround_enqueueAtOnce (d : Fin 64) (w : Window) (m : Mode) : SameSurround s (enqueueAtOnce d w m s) := by
  unfold enqueueAtOnce
  split
  · exact SameSurround.trans (surround_enqueue d w m .software) surround_activateAtOnce
  · exact surround_enqueue d w m .software

theorem surround_switchDone (d : DescIdx) : SameSurround s (switchDone d s) := by
  unfold switchDone
  dsimp only
  split
  · exact SameSurround.trans (.refl : SameSurround s _) (surround_endActive _)
  · exact .refl

theorem surround_completeSwitch (d : DescIdx) : SameSurround s (completeSwitch d s) :=
  (surround_switchDone d).trans ((surround_release _).trans (surround_recheckStart d))

theorem surround_startSwitch (d : DescIdx) : SameSurround s (startSwitch d s) := by
  unfold startSwitch
  dsimp only
  split
  · split
    · exact SameSurround.trans (.refl : SameSurround s _) (surround_endActive _)
    · exact .refl
  · exact .refl

theorem surround_drainEnd (d : DescIdx) : SameSurround s (drainEnd d s) := by
  unfold drainEnd
  split <;> exact .refl

theorem surround_uncount (c : Counted) : SameSurround s (uncount c s) := by
  unfold uncount
  dsimp only
  split
  · exact SameSurround.trans (surround_modDesc c.index _) (surround_completeSwitch _)
  · exact SameSurround.trans (surround_modDesc c.index _) (surround_drainEnd _)

theorem surround_uncountIf (c : Option Counted) : SameSurround s (uncountIf c s) := by
  cases c with
  | none => exact .refl
  | some c => exact surround_uncount c

theorem surround_enterCutover : SameSurround s (enterCutover s) := by
  unfold enterCutover
  split
  · exact .refl
  · exact SameSurround.trans (.refl : SameSurround s _) (surround_startSwitch _)

theorem surround_completeLine : SameSurround s (completeLine s) := by
  unfold completeLine
  split
  · dsimp only
    split
    · exact .refl
    · split
      · exact SameSurround.trans (.refl : SameSurround s _) surround_enterCutover
      · exact .refl
  · exact .refl
  · exact .refl

theorem surround_copyError : SameSurround s (copyError s) := by
  unfold copyError
  split
  · exact .refl
  · split
    · exact .refl
    · exact surround_endActive _

theorem surround_copyResult (code : TargetCode) (data : List Byte) : SameSurround s (copyResult code data s) := by
  unfold copyResult
  split
  · exact .refl
  · dsimp only
    split
    · exact .refl
    · exact SameSurround.trans (surround_modEng _) surround_completeLine
    · exact SameSurround.trans (surround_modEng _) surround_copyError
    · exact SameSurround.trans (surround_modEng _) surround_copyError
    · exact .refl
    · exact .refl

theorem surround_mirrorReport (c : Counted) (l : Leg) : SameSurround s (mirrorReport c l s) := by
  unfold mirrorReport
  split
  · exact .refl
  · split
    · exact surround_endActive _
    · exact .refl

/-! ## The monitors -/

theorem surround_goIdle (m : Fin 16) : SameSurround s (goIdle m s) := .refl

theorem surround_wakeUp (m : Fin 16) : SameSurround s (wakeUp m s) := .refl

theorem surround_takeTick (m : Fin 16) : SameSurround s (takeTick m s) := by
  unfold takeTick
  split
  · exact .refl
  · exact .refl
  · split <;> exact .refl

theorem surround_takeAccess (m : Fin 16) : SameSurround s (takeAccess m s) := by
  unfold takeAccess
  split <;> exact .refl

/-- A monitor takes an arrival as an event of its own: nothing outside the monitors and the flags changes. -/
theorem surround_takeArrival (a : Arrival) : SameSurround s (takeArrival a s) := by
  cases a with
  | tick m src =>
    simp only [takeArrival]
    split
    · exact surround_takeTick m
    · exact .refl
  | access m d dir =>
    simp only [takeArrival]
    split
    · exact surround_takeAccess m
    · exact .refl

theorem surround_monitorEnqueue (m : Fin 16) (w : Template) (o : Origin) :
    SameSurround s (monitorEnqueue m w o s).1 := by
  unfold monitorEnqueue
  split <;> exact .refl

theorem surround_takeIdleAsk (m : Fin 16) : SameSurround s (takeIdleAsk m s) := by
  unfold takeIdleAsk
  split
  · exact .refl
  · next w _ =>
    have h := surround_monitorEnqueue (s := s) m w (.monitorIdle m)
    split
    · next he => rw [he] at h; exact SameSurround.trans h (surround_modMon m _)
    · next he => rw [he] at h; exact h

theorem surround_takeWakeAsk (m : Fin 16) : SameSurround s (takeWakeAsk m s) := by
  unfold takeWakeAsk
  split
  · exact .refl
  · exact surround_monitorEnqueue ..

theorem surround_takeWithdrawal (m : Fin 16) (id : BitVec 8) : SameSurround s (takeWithdrawal m id s) := by
  unfold takeWithdrawal
  split
  · exact SameSurround.trans (surround_endQueued _ _) (surround_modMon m _)
  · exact .refl

theorem surround_takeAsk (m : Fin 16) : SameSurround s (takeAsk m s) := by
  unfold takeAsk
  dsimp only
  split
  · exact .refl
  · exact SameSurround.trans (surround_modMon m _) (surround_takeIdleAsk m)
  · exact SameSurround.trans (surround_modMon m _) (surround_takeWithdrawal m _)
  · exact SameSurround.trans (surround_modMon m _) (surround_takeWakeAsk m)

theorem surround_finishAsks (m : Fin 16) : SameSurround s (finishAsks m s) :=
  (surround_takeAsk m).trans (surround_takeAsk m)

theorem surround_finishAll (sel : Monitor → Bool) : SameSurround s (finishAll sel s) :=
  SameSurround.trans (.refl : SameSurround s _) (surround_foldl _ (fun _ m => surround_finishAsks m) _ _)

/-! ## Resolution

A resolution sends notifications to monitors, which are arrivals (R42). -/

/-- Two states have the same surround but for the arrivals on their way to monitors. -/
def SameButArrivals (s t : State) : Prop :=
  t.tports = s.tports ∧ t.mgmt = s.mgmt ∧ t.ticks = s.ticks ∧ t.resetAsserted = s.resetAsserted ∧ t.pending = s.pending

theorem SameSurround.butArrivals (h : SameSurround s t) : SameButArrivals s t :=
  ⟨h.1, h.2.1, h.2.2.1, h.2.2.2.2.1, h.2.2.2.2.2⟩

theorem SameButArrivals.refl : SameButArrivals s s := SameSurround.refl.butArrivals

theorem SameButArrivals.trans (h : SameButArrivals s t) (k : SameButArrivals t u) : SameButArrivals s u :=
  ⟨k.1.trans h.1, k.2.1.trans h.2.1, k.2.2.1.trans h.2.2.1, k.2.2.2.1.trans h.2.2.2.1, k.2.2.2.2.trans h.2.2.2.2⟩

theorem butArrivals_notify (d : DescIdx) (dir : Dir) : SameButArrivals s (notify d dir s) := ⟨rfl, rfl, rfl, rfl, rfl⟩

theorem butArrivals_resolveSlot (i : Fin 4) (k : Fin 8) : SameButArrivals s (resolveSlot i k s) := by
  unfold resolveSlot
  dsimp only
  split <;> exact ⟨rfl, rfl, rfl, rfl, rfl⟩

theorem butArrivals_acceptRequest (i : Fin 4) (r : Request) : SameButArrivals s (acceptRequest i r s) := by
  unfold acceptRequest
  dsimp only
  split
  · exact .refl
  · split
    · exact ⟨rfl, rfl, rfl, rfl, rfl⟩
    · split
      · exact .refl
      · split
        · exact ⟨rfl, rfl, rfl, rfl, rfl⟩
        · exact SameButArrivals.trans (t := fillSlot i _ r s) ⟨rfl, rfl, rfl, rfl, rfl⟩ (butArrivals_resolveSlot _ _)

theorem butArrivals_reResolve (i : Fin 4) : SameButArrivals s (reResolve i s) := by
  unfold reResolve
  split
  · exact .refl
  · exact SameButArrivals.trans (surround_modPort i _).butArrivals (butArrivals_resolveSlot _ _)

/-! ## The Initiator Ports -/

theorem surround_takeResponse (i : Fin 4) : SameSurround s (takeResponse i s) := by
  unfold takeResponse
  dsimp only
  split
  · exact .refl
  · split
    · exact .refl
    · exact .refl
    · exact SameSurround.trans (surround_modPort i _) (surround_uncountIf _)

theorem surround_finishSlot (i : Fin 4) (k : Fin 8) : SameSurround s (finishSlot i k s) := by
  unfold finishSlot
  dsimp only
  split
  · split
    · exact .refl
    · exact SameSurround.trans (surround_modPort i _) (surround_uncountIf _)
    · exact .refl
    · exact .refl
    · exact .refl
  · exact .refl

theorem surround_reportMirror (i : Fin 4) (k : Fin 8) (r : LegRole) : SameSurround s (reportMirror i k r s) := by
  unfold reportMirror
  dsimp only
  split
  · exact surround_mirrorReport _ _
  · exact .refl

theorem surround_legResult (i : Fin 4) (k : Fin 8) (r : LegRole) (code : TargetCode) (data : List Byte) :
    SameSurround s (legResult i k r code data s) := by
  unfold legResult
  cases code with
  | ok => exact SameSurround.trans (surround_modSlot i k _) (surround_finishSlot i k)
  | error =>
    exact SameSurround.trans (surround_modSlot i k _) ((surround_reportMirror i k r).trans (surround_finishSlot i k))

theorem surround_assertIrst (i : Fin 4) : SameSurround s (assertIrst i s) :=
  SameSurround.trans (surround_modPort i _) (surround_foldl _ (fun _ c => surround_uncountIf c) _ _)

/-- A result touches no Target Port, whoever its owner is (R86, R96). -/
theorem surround_ownerResult (o : Owner) (code : TargetCode) (data : List Byte) :
    SameSurround s (ownerResult o code data s) := by
  cases o with
  | leg i k r => exact surround_legResult i k r code data
  | meng => exact surround_copyResult code data

end Sys2Proof.Machine
end

