-- ==== Sys2Proof/Laws/Released.lean ====
section
/-! SUPPORT. What the operations of the map, the engine and the monitors do to the Initiator Ports: nothing but to release
held slots (R77). -/

namespace Sys2Proof.Machine

variable {s t u : State}

theorem PortsReleased.slot (h : PortsReleased s t) (i : Fin 4) (k : Fin 8) :
    SameButReleased (s.slot i k) (t.slot i k) :=
  (h i).2.2.2.2.2.2 k

theorem PortsReleased.refl : PortsReleased s s := fun _ => ⟨rfl, rfl, rfl, rfl, rfl, rfl, fun _ => ⟨_, rfl⟩⟩

theorem PortsReleased.trans (h : PortsReleased s t) (k : PortsReleased t u) : PortsReleased s u := fun i => by
  obtain ⟨h1, h2, h3, h4, h5, h6, h7⟩ := h i
  obtain ⟨k1, k2, k3, k4, k5, k6, k7⟩ := k i
  refine ⟨k1.trans h1, k2.trans h2, k3.trans h3, k4.trans h4, k5.trans h5, k6.trans h6, fun n => ?_⟩
  obtain ⟨a, ha⟩ := h7 n
  obtain ⟨b, hb⟩ := k7 n
  exact ⟨b, by rw [hb, ha]⟩

theorem released_of_ports (h : t.ports = s.ports) : PortsReleased s t := fun i => by
  have hp : t.port i = s.port i := congrArg (fun ps => look ps i) h
  have hs : ∀ k, t.slot i k = s.slot i k := fun k => congrArg (fun p : IPort => look p.slots k) hp
  refine ⟨?_, ?_, ?_, ?_, ?_, ?_, fun k => ⟨_, hs k⟩⟩ <;> rw [hp]

theorem released_foldl {α : Type} (f : State → α → State) (h : ∀ s a, PortsReleased s (f s a)) :
    ∀ (l : List α) (s : State), PortsReleased s (l.foldl f s)
  | [], _ => .refl
  | a :: l, s => (h s a).trans (released_foldl f h l (f s a))

theorem released_modDesc (d : DescIdx) (f : Desc → Desc) : PortsReleased s (s.modDesc d f) := .refl
theorem released_modEng (f : Engine → Engine) : PortsReleased s (s.modEng f) := .refl
theorem released_modMon (m : Fin 16) (f : Monitor → Monitor) : PortsReleased s (s.modMon m f) := .refl
theorem released_raise (c : EventClass) : PortsReleased s (raise c s) := .refl

theorem released_release (sel : Hold → Bool) : PortsReleased s (release sel s) := fun i => by
  refine ⟨by simp, by simp, by simp, by simp, by simp, by simp, fun k => ?_⟩
  exact release_slot_eq s sel i k

/-- A slot with legs is counted, whatever its state (R71). -/
theorem Slot.fits_counted {sl : Slot} (h : sl.fits) (hl : sl.legs ≠ []) : sl.counted.isSome = true := by
  have h := h.2
  split at h
  · exact absurd (congrArg Slot.legs h) hl
  · exact absurd h.2.1 hl
  · exact h.1
  · exact h.2.1 hl
  · exact h.1

/-! ## The engine -/

theorem released_endQueued (j : Job) (e : Ending) : PortsReleased s (endQueued j e s) :=
  released_of_ports (endQueued_ports ..)

theorem released_endActive (e : Ending) : PortsReleased s (endActive e s) := by
  rcases h : s.eng.active with _ | j
  · rw [endActive_none _ _ h]; exact .refl
  · exact (released_release (Hold.onDescLine (ordIdx j.desc))).trans (released_of_ports (endActive_ports _ _ h))

theorem released_takeStartChecks : PortsReleased s (takeStartChecks s) := by
  rcases takeStartChecks_cases s with h | ⟨r, h⟩ <;> rw [h]
  · exact .refl
  · exact released_endActive _

theorem released_activateJob : PortsReleased s (activateJob s) := by
  rcases activateJob_cases s with h | ⟨j, rest, _, _, _, h⟩ <;> rw [h]
  · exact .refl
  · exact PortsReleased.trans (released_modEng _) released_takeStartChecks

theorem released_beginJob : PortsReleased s (beginJob s) := by
  rcases beginJob_cases s with h | ⟨r, h⟩ | ⟨j, _, _, _, h⟩ <;> rw [h]
  · exact .refl
  · exact released_endActive _
  · exact released_of_ports rfl

theorem released_recheckStart (d : DescIdx) : PortsReleased s (recheckStart d s) := by
  rcases recheckStart_cases s d with h | ⟨_, h⟩ <;> rw [h]
  · exact .refl
  · exact released_beginJob

theorem released_activateAtOnce : PortsReleased s (activateAtOnce s) := by
  rcases activateAtOnce_cases s with h | ⟨j, rest, _, _, _, h⟩ <;> rw [h]
  · exact .refl
  · exact PortsReleased.trans (released_modEng _) released_beginJob

theorem released_beginLine : PortsReleased s (beginLine s) := released_of_ports (beginLine_ports s)

theorem released_enqueue (d : Fin 64) (w : Window) (m : Mode) (o : Origin) : PortsReleased s (enqueue d w m o s) := .refl

theorem released_enqueueAtOnce (d : Fin 64) (w : Window) (m : Mode) : PortsReleased s (enqueueAtOnce d w m s) := by
  unfold enqueueAtOnce
  split
  · exact PortsReleased.trans (released_enqueue d w m .software) released_activateAtOnce
  · exact released_enqueue d w m .software

theorem released_switchDone (d : DescIdx) : PortsReleased s (switchDone d s) := by
  unfold switchDone
  dsimp only
  split
  · exact PortsReleased.trans (.refl : PortsReleased s _) (released_endActive _)
  · exact .refl

theorem released_completeSwitch (d : DescIdx) : PortsReleased s (completeSwitch d s) :=
  (released_switchDone d).trans ((released_release _).trans (released_recheckStart d))

theorem released_startSwitch (d : DescIdx) : PortsReleased s (startSwitch d s) := by
  unfold startSwitch
  dsimp only
  split
  · split
    · exact PortsReleased.trans (.refl : PortsReleased s _) (released_endActive _)
    · exact .refl
  · exact .refl

theorem released_drainEnd (d : DescIdx) : PortsReleased s (drainEnd d s) := by
  unfold drainEnd
  split <;> exact .refl

theorem released_uncount (c : Counted) : PortsReleased s (uncount c s) := by
  unfold uncount
  dsimp only
  split
  · exact PortsReleased.trans (released_modDesc c.index _) (released_completeSwitch _)
  · exact PortsReleased.trans (released_modDesc c.index _) (released_drainEnd _)

theorem released_uncountIf (c : Option Counted) : PortsReleased s (uncountIf c s) := by
  cases c with
  | none => exact .refl
  | some c => exact released_uncount c

theorem released_enterCutover : PortsReleased s (enterCutover s) := by
  unfold enterCutover
  split
  · exact .refl
  · exact PortsReleased.trans (.refl : PortsReleased s _) (released_startSwitch _)

theorem released_completeLine : PortsReleased s (completeLine s) := by
  unfold completeLine
  split
  · next j l _ _ =>
    have h : PortsReleased s (release (Hold.onLine (ordIdx j.desc) l) (s.modEng fun g =>
        { g with cursor := g.cursor + 1, lineInFlight := none, lineStep := none, lineData := none, retryCount := 0 })) :=
      PortsReleased.trans (released_modEng _) (released_release _)
    dsimp only
    split
    · exact h.trans (released_modEng _)
    · split
      · exact h.trans released_enterCutover
      · exact h
  · exact .refl
  · exact .refl

theorem released_copyError : PortsReleased s (copyError s) := by
  unfold copyError
  split
  · exact .refl
  · split
    · exact .refl
    · exact released_endActive _

theorem released_copyResult (code : TargetCode) (data : List Byte) : PortsReleased s (copyResult code data s) := by
  unfold copyResult
  split
  · exact .refl
  · dsimp only
    split
    · exact .refl
    · exact PortsReleased.trans (released_modEng _) released_completeLine
    · exact PortsReleased.trans (released_modEng _) released_copyError
    · exact PortsReleased.trans (released_modEng _) released_copyError
    · exact .refl
    · exact .refl

theorem released_mirrorReport (c : Counted) (l : Leg) : PortsReleased s (mirrorReport c l s) := by
  unfold mirrorReport
  split
  · exact .refl
  · split
    · exact released_endActive _
    · exact .refl

/-! ## The monitors

No operation of a monitor touches a port. -/

theorem takeTick_ports (m : Fin 16) : (takeTick m s).ports = s.ports := by
  unfold takeTick
  split
  · rfl
  · rfl
  · split <;> rfl

theorem takeAccess_ports (m : Fin 16) : (takeAccess m s).ports = s.ports := by
  unfold takeAccess
  split <;> rfl

theorem takeArrival_ports (a : Arrival) : (takeArrival a s).ports = s.ports := by
  cases a with
  | tick m src =>
    simp only [takeArrival]
    split
    · exact takeTick_ports m
    · rfl
  | access m d dir =>
    simp only [takeArrival]
    split
    · exact takeAccess_ports m
    · rfl

theorem monitorEnqueue_ports (m : Fin 16) (w : Template) (o : Origin) : (monitorEnqueue m w o s).1.ports = s.ports := by
  unfold monitorEnqueue
  split <;> rfl

theorem takeAsk_ports (m : Fin 16) : (takeAsk m s).ports = s.ports := by
  unfold takeAsk
  dsimp only
  split
  · rfl
  · unfold takeIdleAsk
    split
    · rfl
    · next w _ =>
      have h := monitorEnqueue_ports (s := s.modMon m fun x => { x with ask := none }) m w (.monitorIdle m)
      split
      · next he => rw [he] at h; exact h
      · next he => rw [he] at h; exact h
  · unfold takeWithdrawal
    split
    · simp
    · rfl
  · unfold takeWakeAsk
    split
    · rfl
    · exact monitorEnqueue_ports ..

theorem finishAll_ports (sel : Monitor → Bool) : (finishAll sel s).ports = s.ports := by
  have key : ∀ (ms : List (Fin 16)) (s : State), (ms.foldl (fun s m => finishAsks m s) s).ports = s.ports := by
    intro ms
    induction ms with
    | nil => intro s; rfl
    | cons m ms ih => intro s; rw [List.foldl_cons, ih, finishAsks, takeAsk_ports, takeAsk_ports]
  unfold finishAll
  dsimp only
  rw [key]

end Sys2Proof.Machine
end

