-- ==== Sys2Proof/Laws/Target.lean ====
section
/-! SUPPORT. What the operations of the Target Ports leave alone, and what they do to the ports' own records. -/

namespace Sys2Proof.Machine

variable {s t u : State}

/-- Two states agree on the window, the tick sources, the arrivals, RESET_N and the queue of waiting commands. -/
def SameWindow (s t : State) : Prop :=
  t.mgmt = s.mgmt ∧ t.ticks = s.ticks ∧ t.arrivals = s.arrivals ∧ t.resetAsserted = s.resetAsserted ∧
    t.pending = s.pending

theorem SameWindow.refl : SameWindow s s := ⟨rfl, rfl, rfl, rfl, rfl⟩

theorem SameWindow.trans (h : SameWindow s t) (k : SameWindow t u) : SameWindow s u :=
  ⟨k.1.trans h.1, k.2.1.trans h.2.1, k.2.2.1.trans h.2.2.1, k.2.2.2.1.trans h.2.2.2.1, k.2.2.2.2.trans h.2.2.2.2⟩

theorem SameSurround.window (h : SameSurround s t) : SameWindow s t := h.2

theorem window_modTPort (p : Fin 4) (f : TPort → TPort) : SameWindow s (s.modTPort p f) := .refl

/-- Failing a list of requests to their owners touches no Target Port (R96). -/
theorem surround_failOwners (l : List TReq) :
    SameSurround s (l.foldl (fun s r => ownerResult r.owner .error [] s) s) :=
  surround_foldl _ (fun _ r => surround_ownerResult r.owner .error []) l s

/-- A port that enters OFFLINE has an empty queue and a stopped timer; no other Target Port changes (R96). -/
theorem enterOffline_tports (p : Fin 4) :
    (enterOffline p s).tports =
      upd s.tports p { s.tport p with state := .offline, queue := [], timer := none } :=
  (surround_failOwners (s := raise (.offline p) (raise (.target p)
    (s.modTPort p fun x => { x with state := .offline, queue := [], timer := none }))) (s.tport p).queue).1

theorem window_enterOffline (p : Fin 4) : SameWindow s (enterOffline p s) :=
  SameWindow.trans (.refl : SameWindow s _) (surround_failOwners (s.tport p).queue).window

theorem window_expireTimer (p : Fin 4) : SameWindow s (expireTimer p s) := by
  unfold expireTimer
  split
  · exact window_enterOffline p
  · exact .refl

theorem window_targetAnswers (p : Fin 4) (num : BitVec 4) (code : TargetCode) (data : List Byte) :
    SameWindow s (targetAnswers p num code data s) := by
  unfold targetAnswers
  split
  · exact .refl
  · split
    · exact window_enterOffline p
    · dsimp only
      split
      · cases code <;> refine SameWindow.trans ?_ (surround_ownerResult _ _ _).window <;> exact ⟨rfl, rfl, rfl, rfl, rfl⟩
      · exact window_enterOffline p

theorem surround_handOver (p : Fin 4) (r : Requester) : SameSurround s (handOver p r s).1 := by
  unfold handOver
  split
  · split <;> exact .refl
  · split <;> exact .refl

theorem window_takeGrant (p : Fin 4) (b : ReqBody) (o : Owner) : SameWindow s (takeGrant p b o s) := by
  unfold takeGrant
  split
  · exact .refl
  · exact SameWindow.trans (.refl : SameWindow s _) (surround_ownerResult _ _ _).window

theorem window_grant (p : Fin 4) : SameWindow s (grant p s) := by
  unfold grant
  split
  · exact .refl
  · split
    · exact .refl
    · next r _ =>
      have h := (surround_handOver (s := s.modTPort p fun x => { x with lastGranted := r }) p r).window
      split
      · next he => rw [he] at h; exact SameWindow.trans h (window_takeGrant p _ _)
      · next he => rw [he] at h; exact h

end Sys2Proof.Machine
end

