-- ==== Sys2Proof/Tests/Slice0.lean ====
section
/-! SUPPORT. Tests of the model on small states, and for every statement with hypotheses a state that meets them. -/

set_option Elab.async false

namespace Sys2Proof.Tests

open Sys2Proof.Machine

/-! ## Which commands are well-formed -/

theorem test_request_length_above_64 :
    (Instr.acceptRequest 0 ⟨0, .read, 0, 65, []⟩).wf = false ∧
      (Instr.acceptRequest 0 ⟨0, .read, 0, 64, []⟩).wf = true := by decide

theorem test_request_read_with_data : (Instr.acceptRequest 0 ⟨0, .read, 0, 1, [7]⟩).wf = false := by decide

theorem test_request_write_data_length :
    (Instr.acceptRequest 0 ⟨0, .write, 0, 2, [7]⟩).wf = false ∧
      (Instr.acceptRequest 0 ⟨0, .write, 0, 1, [7]⟩).wf = true := by decide

theorem test_response_error_with_data :
    (Instr.targetResponse 0 0 .error [7]).wf = false ∧ (Instr.targetResponse 0 0 .error []).wf = true := by decide

theorem test_response_above_a_line :
    (Instr.targetResponse 0 0 .ok (List.replicate 65 7)).wf = false ∧
      (Instr.targetResponse 0 0 .ok (List.replicate 64 7)).wf = true := by decide

theorem test_unknown_command_with_assigned_code :
    (Instr.unknownCommand 0x01).wf = false ∧ (Instr.unknownCommand 0x110).wf = false ∧
      (Instr.unknownCommand 0x00).wf = true ∧ (Instr.unknownCommand 0x11).wf = true := by decide

theorem test_register_write_at_another_row :
    (Instr.registerWrite 2 0).wf = false ∧ (Instr.registerWrite 34 0).wf = false ∧
      (Instr.registerWrite 4 0).wf = true ∧ (Instr.registerWrite 63 0).wf = true := by decide

/-! ## Small states -/

/-- The state a meaning answers. -/
def after (o : Host.Outcome State Fault Refusal) : State :=
  match o with
  | .next t => t
  | .fault _ => State.reset
  | .refused _ => State.reset

/-- A state with PARAM0 onward at these words. -/
def withParams (ws : List Word) (s : State) : State :=
  { s with mgmt := { s.mgmt with param := tabulate fun k => ws.getD k.val 0 } }

/-- A state with a descriptor record written. -/
def withDesc (d : DescIdx) (x : Desc) (s : State) : State := s.modDesc d fun _ => x

/-- A state with an engine record written. -/
def withEng (g : Engine) (s : State) : State := s.modEng fun _ => g

/-- A state with a slot written. -/
def withSlot (i : Fin 4) (k : Fin 8) (sl : Slot) (s : State) : State := s.modSlot i k fun _ => sl

/-- A LIVE page at address 0: reads from target 0, writes to target 1, every initiator READWRITE. -/
def page : Desc :=
  { Desc.powerOn with
    state := .live, read := .window ⟨0, 0⟩, write := .window ⟨1, 0x1000⟩, perms := Vector.replicate 4 .readWrite }

/-- The part with that page as descriptor 0. -/
def paged : State := withDesc 0 page State.reset

/-- A job that moves the page to target 2. -/
def job : Job := ⟨5, 0, ⟨2, 0x3000⟩, .move, .software⟩

/-- The engine copying with that job, its line 1 in flight. -/
def copier : Engine :=
  { Engine.powerOn with
    state := .copying, active := some job, started := true, cursor := 1, lineInFlight := some 1
    lineStep := some .sourceRead, credits := 3 }

/-- The part while it copies the page. -/
def copying : State := withEng copier (withDesc 0 { page with state := .migrating } State.reset)

/-- A page whose old routes one transaction still uses (R52). -/
def switchingPage : Desc := { page with switching := true, gen := 1, prev := 1 }

/-- A read of the page in generation 0, its one leg at target 0 with this status. -/
def reader (state : SlotState) (status : LegStatus) : Slot :=
  { Slot.blank with
    state := state, tag := 9, addr := 0x10, len := 4, counted := some ⟨0, 0, 0⟩
    legs := [⟨.read, 0, 0x10, status⟩] }

/-- A transaction held on the switch of descriptor 0. -/
def holder (pos : Nat) : Slot :=
  { Slot.blank with state := .held, pos := pos, tag := 4, addr := 0x20, len := 4, hold := some (.switch 0) }

/-- The part while descriptor 0 switches: slot 0 of port 0 is the last old transaction, answered and not yet taken,
and slots 1 and 2 of port 3 are held. -/
def switching : State :=
  let s := withSlot 0 0 { reader .issued .ok with response := some .done, readData := some [1, 2, 3, 4] }
    (withSlot 3 1 (holder 6) (withSlot 3 2 (holder 2) (withDesc 0 switchingPage State.reset)))
  s.modPort 0 fun p => { p with answers := [.slot 0] }

/-- The part while the job of descriptor 0 waits in STARTING for its switch (R110). -/
def starting : State := withEng { Engine.powerOn with state := .starting, active := some job } switching

/-- The part in CUTOVER: descriptor 0 is MIGRATING and switching. -/
def cutover : State :=
  withEng { Engine.powerOn with state := .cutover, active := some job, started := true, cursor := 64 }
    (withDesc 0 { switchingPage with state := .migrating } switching)

/-- The part with a read granted to target 0 and not yet answered. -/
def granted : State :=
  (withSlot 1 2 (reader .issued .granted) (withDesc 0 { page with cur := 1 } State.reset)).modTPort 0 fun p =>
    { p with queue := [⟨⟨.read, 0x10, 4, []⟩, 0, .leg 1 2 .read, false⟩], nextNum := 1, timer := some 10 }

/-- The part with a read presented to the arbiter of target 0. -/
def presented : State :=
  (withSlot 1 2 (reader .waiting .ungranted) (withDesc 0 { page with cur := 1 } State.reset)).modPort 1 fun p =>
    { p with legQueues := upd p.legQueues 0 [⟨2, .read⟩] }

/-- A monitor bound to descriptor 0. -/
def watcher (state : MonState) (count : Nat) : Monitor :=
  { Monitor.cleared with
    state := state, count := count, reload := 3, idleT := some ⟨⟨2, 0x3000⟩, .move⟩
    wakeT := some ⟨⟨2, 0x3000⟩, .move⟩ }

/-- The part with monitors 0 and 15 COUNTING at 1 and 2, and monitor 7 IDLE, on the page. -/
def watched : State :=
  ((paged.modMon 0 fun _ => watcher .counting 1).modMon 15 fun _ => watcher .counting 2).modMon 7 fun _ =>
    watcher .idle 0

/-- The part with target port 2 OFFLINE. -/
def offline : State := State.reset.modTPort 2 fun p => { p with state := .offline }

/-! ## One step of each command -/

theorem test_power_on_reset :
    (after (exec (.powerOnReset 3) copying)).desc 64 = Desc.floorPowerOn 3 ∧
      (after (exec (.powerOnReset 7) copying)).eng = Engine.powerOn := by decide +kernel

theorem test_reset_n_assertion :
    (after (exec .resetNAssertion paged)).trstN 0 = false ∧ paged.trstN 0 = true := by decide +kernel

theorem test_irst_n_assert :
    ((after (exec (.irstNAssert 1) granted)).slot 1 2).state = .orphaned ∧
      ((after (exec (.irstNAssert 1) presented)).desc 0).cur = 0 := by decide +kernel

theorem test_irst_n_deassert :
    ((after (exec (.irstNDeassert 1) (after (exec (.irstNAssert 1) presented)))).port 1).state = .active := by
  decide +kernel

/-- A write to the line in flight is held (R38). -/
theorem test_accept_request_held :
    ((after (exec (.acceptRequest 0 ⟨3, .write, 0x7C, 4, [1, 2, 3, 4]⟩) copying)).slot 0 0).hold =
      some (.line 0 1) := by decide +kernel

/-- A read that runs over the end of its line is answered DECODE-ERR (R69). -/
theorem test_accept_request_bad_format :
    (after (exec (.acceptRequest 0 ⟨3, .read, 0x3F, 2, []⟩) paged)).isPending (.decode 0) = true := by decide +kernel

theorem test_response_taken_completes_the_switch :
    ((after (exec (.responseTaken 0) switching)).desc 0).switching = false ∧
      ((after (exec (.responseTaken 0) switching)).port 3).resQueue = [2, 1] := by decide +kernel

theorem test_re_resolution :
    ((after (exec (.reResolution 3) (after (exec (.responseTaken 0) switching)))).slot 3 2).state = .waiting := by
  decide +kernel

theorem test_arbiter_grant :
    ((after (exec (.arbiterGrant 0) presented)).tport 0).queue =
      [⟨⟨.read, 0x10, 4, []⟩, 0, .leg 1 2 .read, false⟩] := by decide +kernel

theorem test_arbiter_grants_the_engine :
    ((after (exec (.arbiterGrant 0) copying)).tport 0).queue =
      [⟨⟨.read, 0x40, 64, []⟩, 0, .meng, false⟩] := by decide +kernel

theorem test_target_request_taken :
    ((after (exec (.targetRequestTaken 0) granted)).tport 0).presentedRequest = none := by decide +kernel

theorem test_target_response :
    ((after (exec (.targetResponse 0 0 .ok [8, 8, 8, 8]) granted)).port 1).presented =
      some (9, .done, [8, 8, 8, 8]) := by decide +kernel

theorem test_target_response_with_another_number :
    ((after (exec (.targetResponse 0 1 .ok [8, 8, 8, 8]) granted)).tport 0).state = .offline := by decide +kernel

theorem test_response_timer_expiry :
    ((after (exec (.responseTimerExpiry 0) granted)).port 1).presented = some (9, .targetErr, []) := by decide +kernel

theorem test_restore_target_and_end :
    (after (exec .restoreTarget (withParams [2] offline))).mgmt.busy = true ∧
      ((after (exec (.restoreEnd 2) (after (exec .restoreTarget (withParams [2] offline))))).tport 2).state =
        .online := by decide +kernel

/-- A job that QUEUE MIGRATION forms on an IDLE engine is active and starts at once (R105, R110), so that a second one for
its descriptor is refused STATE (6.11); its first line follows as the engine's own step (R123). -/
theorem test_queue_migration_starts_and_begins_a_line :
    let s := after (exec .queueMigration (withParams [0x00000200, 0x3000] paged))
    s.eng.state = .copying ∧ (s.desc 0).state = .migrating ∧ (partStep s).eng.lineInFlight = some 0 ∧
      (after (exec .queueMigration s)).mgmt.lastReason = 1 := by
  decide +kernel

/-- The two orders of HALT ENGINE and the switch completion that starts a waiting job (R117). -/
theorem test_halt_and_the_switch_completion :
    let s := after (exec (.responseTaken 0) starting)
    let h := after (exec .haltEngine s)
    let g := after (exec (.responseTaken 0) (after (exec .haltEngine starting)))
    (s.eng.state = .copying ∧ (s.desc 0).state = .migrating) ∧ (h.eng.state = .halted ∧ h.eng.started = true) ∧
      g.eng.state = .halted ∧ g.eng.started = false ∧ (g.desc 0).switching = false := by decide +kernel

/-- A change of another descriptor leaves a job in STARTING as it is (R110). -/
theorem test_retire_of_another_descriptor :
    let s := after (exec .jobActivate (paged.modEng fun g => { g with queue := [job] }))
    (after (exec .retire (withParams [1] (withDesc 1 { page with base := 0x1000 } s)))).eng = s.eng := by decide +kernel

theorem test_queue_migration_overlap :
    (after (exec .queueMigration (withParams [0x00000000, 0] paged))).mgmt.lastReason = 9 := by decide +kernel

theorem test_job_activate_and_start :
    (after (exec .jobStart (after (exec .jobActivate (paged.modEng fun g => { g with queue := [job] }))))).eng.state =
      .copying := by decide +kernel

theorem test_line_begin :
    (after (exec .lineBegin (withEng { copier with lineInFlight := none, lineStep := none } copying))).eng.credits =
      3 := by decide +kernel

theorem test_budget_expiry :
    (after (exec .budgetExpiry (after (exec (.budgetWrite 0x0500) copying)))).eng.credits = 5 ∧
      (after (exec .budgetExpiry (after (exec (.budgetWrite 0x0500) copying)))).eng.budgetTimer = 256 := by
  decide +kernel

/-- A tick reaches each running monitor as an event of its own; the engine takes the idle enqueue after it (R145, R149,
R106). -/
theorem test_tick :
    let s := after (exec (.tick .t100u) watched)
    let u := takeEvent (.arrive (.tick 0 .t100u)) s
    s.arrivals = [.tick 0 .t100u, .tick 7 .t100u, .tick 15 .t100u] ∧
      ((takeEvent (.arrive (.tick 15 .t100u)) s).mon 15).count = 1 ∧
      (u.isPending (.idle 0) = true ∧ (u.mon 0).ask = some .idle ∧ u.eng.queue = []) ∧
      ((takeEvent (.ask 0) u).mon 0).idleJob = some 0 ∧ (takeEvent (.ask 0) u).eng.queue.length = 1 := by
  decide +kernel

/-- GO_IDLE takes the tick that is on its way; a monitor that does not count at 1 does not go idle. -/
theorem test_go_idle :
    let s := after (exec (.tick .t100u) watched)
    (after (exec (.goIdle 0) s)).isPending (.idle 0) = true ∧
      (after (exec (.goIdle 0) s)).arrivals = [.tick 7 .t100u, .tick 15 .t100u] ∧
      after (exec (.goIdle 15) watched) = watched := by decide +kernel

/-- A wake sets WAKE[m] in one step and JOB_ABORTED in a later one, when the engine takes the withdrawal: a read of the
window between them shows the one without the other (R159, R150). -/
theorem test_wake_before_job_aborted :
    let s := (watched.modMon 7 fun x => { x with idleJob := some 5 }).modEng fun g =>
      { g with state := .halted, queue := [job] }
    let u := takeEvent (.arrive (.access 7 0 .read)) (after (exec (.acceptRequest 0 ⟨3, .read, 0, 4, []⟩) s))
    (u.isPending (.wake 7) = true ∧ u.isPending .jobAborted = false ∧ readWord 25 u = 0x400 ∧ readWord 24 u = 0) ∧
      (takeEvent (.ask 7) u).isPending .jobAborted = true ∧ readWord 24 (takeEvent (.ask 7) u) = 0x4000 := by
  decide +kernel

/-- HALT ENGINE between the completion of a line and the beginning of the next halts at once (R117). -/
theorem test_halt_between_lines :
    let s := copying.modEng fun g => { g with outstanding := 1, lineStep := some .destWrite }
    let u := copyResult .ok [] s
    u.eng.cursor = 2 ∧ (after (exec .haltEngine u)).eng.state = .halted ∧
      (after (exec .haltEngine (partStep u))).eng.haltPending = true := by decide +kernel

/-- With nothing due a microsecond passes (R92, R131, R145). -/
theorem test_microsecond :
    let t := after (step granted)
    (t.tport 0).timer = some 9 ∧ t.eng.budgetTimer = 15 ∧ look t.ticks 3 = 99999 := by decide +kernel

/-- Example record of STAGE: descriptor 5, size 16, read from target 1, write to target 2, no mirror (R174). -/
theorem test_stage :
    (after (exec .stage (withParams [0x3A551005, 0x00120000, 0x00010000, 0x00020000, 0, 0x00000201] State.reset))).desc 5
      = ⟨.staged, false, 0x0120000, 16, .window ⟨1, 0x0010000⟩, .window ⟨2, 0x0020000⟩, none,
          Vector.replicate 4 .read, 0, 0, 0, .none⟩ := by decide +kernel

theorem test_activate :
    ((after (exec .activate (withParams [0] (withDesc 0 { page with state := .staged } State.reset)))).desc 0).state =
      .live := by decide +kernel

theorem test_activate_conflict :
    (after (exec .activate (withParams [1] (withDesc 1 { page with state := .staged } paged)))).mgmt.lastReason =
      6 := by decide +kernel

theorem test_modify :
    ((after (exec .modify (withParams [0x30000000] granted))).desc 0).switching = true ∧
      ((after (exec .modify (withParams [0x30000000] paged))).desc 0).switching = false := by decide +kernel

theorem test_retire :
    ((after (exec .retire (withParams [0] copying))).desc 0).outcome = .aborted .retired ∧
      ((after (exec .retire (withParams [0] granted))).desc 0).state = .draining := by decide +kernel

theorem test_read_descriptor :
    look (after (exec .readDescriptor (withParams [0] paged))).mgmt.result 2 = 0x20000000 := by decide +kernel

theorem test_probe :
    look (after (exec .probe (withParams [0x00000004, 0x0100] paged))).mgmt.result 2 = 0x50001004 := by
  decide +kernel

theorem test_cancel_job :
    (after (exec .cancelJob (withParams [5] copying))).isPending .jobAborted = true ∧
      (after (exec .cancelJob (withParams [5] cutover))).mgmt.lastReason = 10 := by decide +kernel

theorem test_query_job :
    look (after (exec .queryJob (withParams [5] copying))).mgmt.result 1 = 0x00051201 ∧
      look (after (exec .queryJob (withParams [5] copying))).mgmt.result 2 = 1 := by decide +kernel

theorem test_halt_engine :
    (after (exec .haltEngine copying)).eng.haltPending = true ∧
      (after (exec .haltEngine paged)).eng.state = .halted := by decide +kernel

theorem test_resume_engine :
    (after (exec .resumeEngine (after (exec .haltEngine paged)))).eng.state = .idle := by decide +kernel

theorem test_set_monitor :
    ((after (exec .setMonitor (withParams [0x00FF0003, 0x0103, 0, 0, 0, 0] paged))).mon 3) =
      ⟨.counting, 0, 255, 255, .t100m, .writes, none, none, none, none⟩ := by decide +kernel

/-- A tick that was on its way when the monitor was stopped does not reach it after the next SET MONITOR (R152). -/
theorem test_set_monitor_drops_arrivals :
    let s := after (exec .stopMonitor (withParams [15] (after (exec (.tick .t100u) watched))))
    (after (exec .setMonitor (withParams [0x0001000F, 0x0200, 0, 0, 0, 0] s))).arrivals =
      [.tick 0 .t100u, .tick 7 .t100u] := by decide +kernel

theorem test_stop_monitor : ((after (exec .stopMonitor (withParams [7] watched))).mon 7).state = .off := by
  decide +kernel

theorem test_read_monitor :
    look (after (exec .readMonitor (withParams [15] watched))).mgmt.result 1 = 0x03020001 := by decide +kernel

theorem test_restart :
    (after (exec .restart copying)).eng.state = .idle ∧
      ((after (exec .restart copying)).desc 0).state = .live := by decide +kernel

theorem test_unknown_command :
    look (after (exec (.unknownCommand 0xABCD77) paged)).mgmt.result 0 = 0x0000770C := by decide +kernel

theorem test_command_overrun :
    (after (exec (.commandOverrun 1) (after (exec .restoreTarget (withParams [2] offline))))).mgmt.overrun = true := by
  decide +kernel

theorem test_status_write :
    (after (exec (.statusWrite 2) { paged with mgmt := { paged.mgmt with overrun := true } })).mgmt.overrun =
      false := by decide +kernel

/-- CMD_DONE is class 18: bit 18 of EVENT_PENDING0, bits 5:4 of EVENT_ROUTE1 (R178). -/
theorem test_event_writes :
    (after (exec (.eventPendingWrite 0 0x40000) (after (exec .haltEngine paged)))).isPending .cmdDone = false ∧
      (after (exec (.eventRouteWrite 1 0x10) (after (exec .haltEngine paged)))).irq = true ∧
      readWord 24 (after (exec .haltEngine paged)) = 0x40000 := by decide +kernel

theorem test_retry_write : (after (exec (.retryWrite 0xFF) paged)).mgmt.retry = 3 := by decide +kernel

theorem test_tgt_timeout_write :
    ((after (exec (.tgtTimeoutWrite 0x02) granted)).tport 0).timer = some 20 := by decide +kernel

theorem test_register_write :
    look (after (exec (.registerWrite 9 7) paged)).mgmt.param 5 = 7 ∧
      after (exec (.registerWrite 0 7) paged) = paged := by decide +kernel

/-- No table word spells a command. -/
theorem test_decode_table_word : decodeTableWord 8 1 = none ∧ paged.withFetchWord 8 1 = paged := by decide +kernel

/-! ## States that meet the hypotheses of the statements

One theorem for each statement with hypotheses; its parts follow the statement's clauses. -/

theorem copying_engineFits : EngineFits copying := by
  refine ⟨by unfold Engine.stateFits; exact ⟨rfl, rfl⟩, ⟨fun l h => ?_, by decide +kernel⟩,
    ⟨by decide +kernel, fun h => ?_, fun h => ?_⟩, ⟨by decide +kernel, by decide +kernel⟩, by decide +kernel⟩
  · have h : some 1 = some l := h
    cases h
    exact ⟨rfl, rfl⟩
  · exact absurd h (by decide +kernel)
  · exact absurd h (by decide +kernel)

/-- The engine's law where no line is in flight and no copy request is outstanding. -/
theorem engineFits_of_quiet {s : State} (h1 : s.eng.stateFits) (h2 : s.eng.lineInFlight = none)
    (h3 : s.eng.lineStep = none) (h4 : s.eng.outstanding = 0) (h5 : s.eng.state ≠ .aborting)
    (h6 : MigratingIsStarted s)
    (h7 : ∀ d : Fin 64, (s.desc (ordIdx d)).state = .migrating →
      ((s.desc (ordIdx d)).switching = true ↔ s.eng.state = .cutover)) : EngineFits s := by
  refine ⟨h1, ⟨fun l h => ?_, by simp [h2, h3]⟩, ⟨by omega, fun h => absurd h h5, fun h => ?_⟩, h6, h7⟩
  · rw [h2] at h; cases h
  · omega

theorem cutover_engineFits : EngineFits cutover :=
  engineFits_of_quiet (by unfold Engine.stateFits; exact ⟨rfl, rfl⟩) rfl rfl rfl (by decide +kernel)
    ⟨by decide +kernel, by decide +kernel⟩ (by decide +kernel)

theorem starting_engineFits : EngineFits starting :=
  engineFits_of_quiet (by unfold Engine.stateFits; exact ⟨rfl, rfl⟩) rfl rfl rfl (by decide +kernel)
    ⟨by decide +kernel, by decide +kernel⟩ (by decide +kernel)

theorem switching_engineFits : EngineFits switching :=
  engineFits_of_quiet (by unfold Engine.stateFits; exact ⟨rfl, rfl⟩) rfl rfl rfl (by decide +kernel)
    ⟨by decide +kernel, by decide +kernel⟩ (by decide +kernel)

theorem paged_engineFits : EngineFits paged :=
  engineFits_of_quiet (by unfold Engine.stateFits; exact ⟨rfl, rfl⟩) rfl rfl rfl (by decide +kernel)
    ⟨by decide +kernel, by decide +kernel⟩ (by decide +kernel)

theorem witness_EmptyQueueTakesADueEventOrAMicrosecond :
    let last := granted.modTPort 0 fun p => { p with timer := some 1 }
    (paged.pending = [] ∧ paged.resetAsserted = false ∧ dueEvents paged = []) ∧
      (dueEvents last = [] ∧ ((after (step last)).tport 0).state = .offline) ∧
      dueEvents (paged.modEng fun g => { g with queue := [job] }) = [.activate] ∧
      dueEvents (after (exec (.goIdle 0) watched)) = [.ask 0] ∧
      dueEvents { watched with arrivals := [.tick 0 .t1m] } = [.arrive (.tick 0 .t1m)] ∧
      { paged with resetAsserted := true }.resetAsserted = true := by decide +kernel

theorem witness_PowerOnResetSetsTheMap : (3 : BitVec 3).toNat < 4 ∧ 4 ≤ (4 : BitVec 3).toNat := by decide

theorem witness_RestartEndsEveryJob : copying.mgmt.busy = false ∧ EngineFits copying ∧ (∀ m, (copying.mon m).ask = none) ∧
      ((after (exec (.goIdle 0) watched)).mon 0).ask ≠ none :=
  ⟨rfl, copying_engineFits, by decide +kernel, by decide +kernel⟩

theorem witness_StageWritesWhatIsInRange :
    (paged.mgmt.busy = false ∧ paramIndex (withParams [0] paged).mgmt.param = (0 : Fin 64).val) ∧
      paramIndex (withParams [63] paged).mgmt.param = (63 : Fin 64).val := by decide +kernel

theorem witness_DescriptorCommandsRefuseTheirIndex :
    64 < paramIndex (withParams [65] paged).mgmt.param ∧ paramIndex (withParams [64] paged).mgmt.param = 64 ∧
      paged.mgmt.busy = false ∧ (withParams [64] paged).desc floorIdx = Desc.floorPowerOn 0 := by
  decide +kernel

theorem witness_RefusedCommandChangesNothing :
    actionOf 0x02 (latchCommand 0x02 paged) = (latchCommand 0x02 paged, some (.refused .state)) := by decide +kernel

theorem witness_ActivateChecksThenMakesLive :
    paged.mgmt.busy = false ∧ paramIndex (withParams [0] paged).mgmt.param = (0 : DescIdx).val ∧
      paramIndex (withParams [64] paged).mgmt.param = (64 : DescIdx).val := by decide +kernel

theorem witness_ModifyChecksThenSwitches :
    granted.mgmt.busy = false ∧ paramIndex (withParams [0] granted).mgmt.param = (0 : DescIdx).val ∧
      (parseRoutes (withParams [0x30000000] granted).mgmt.param).isSome = true ∧ (granted.desc 0).cur ≠ 0 := by
  decide +kernel

theorem witness_RetireTakesOutOfUse_unused :
    let s := withDesc 1 { page with state := .staged } (withDesc 2 { page with state := .draining } State.reset)
    (s.desc (ordIdx 63)).state = .free ∧ (s.desc (ordIdx 2)).state = .draining ∧
      (s.desc (ordIdx 1)).state = .staged ∧ paramIndex (withParams [63] s).mgmt.param = (63 : Fin 64).val ∧
      s.mgmt.busy = false := by decide +kernel

/-- A page whose copying holds a write, for a job that monitor 3, bound to another descriptor, formed. -/
def told : State :=
  ((withSlot 3 1 { holder 1 with dir := .write, hold := some (.line 0 1) } copying).modEng fun g =>
    { g with active := some { job with origin := .monitorIdle 3 } }).modMon 3 fun _ =>
      { watcher .idle 0 with subject := 1, idleJob := some 5 }

theorem told_engineFits : EngineFits told := by
  refine ⟨by unfold Engine.stateFits; exact ⟨rfl, rfl⟩, ⟨fun l h => ?_, by decide +kernel⟩,
    ⟨by decide +kernel, fun h => ?_, fun h => ?_⟩, ⟨by decide +kernel, by decide +kernel⟩, by decide +kernel⟩
  · have h : some 1 = some l := h
    cases h
    exact ⟨rfl, rfl⟩
  · exact absurd h (by decide +kernel)
  · exact absurd h (by decide +kernel)

theorem witness_RetireTakesOutOfUse_inUse :
    ((paged.desc 0).inUse = true ∧ EngineFits paged) ∧
      (((copying.desc 0).state = .migrating ∧ copying.eng.active.map Job.desc = some 0) ∧ EngineFits copying) ∧
      (starting.eng.state = .starting ∧ (starting.desc 0).inUse = true ∧ EngineFits starting) ∧
      ((switching.desc 0).switching = true ∧ (switching.slot 3 1).named (Hold.onSwitch (ordIdx 0)) = true ∧
        EngineFits switching) :=
  ⟨⟨by decide +kernel, paged_engineFits⟩, ⟨⟨by decide +kernel, by decide +kernel⟩, copying_engineFits⟩,
    ⟨by decide +kernel, by decide +kernel, starting_engineFits⟩,
    ⟨by decide +kernel, by decide +kernel, switching_engineFits⟩⟩

theorem witness_RetireTakesOutOfUse_holds_and_monitors :
    EngineFits told ∧ ((told.desc 0).state = .migrating ∧ (told.slot 3 1).named (Hold.onDescLine (ordIdx 0)) = true) ∧
      ((told.mon 3).subject ≠ 0 ∧ (told.mon 3).idleJob = some 5 ∧ (told.mon 4).state = .off) ∧
      (∀ m, (told.mon m).subject = 0 → (told.mon m).ask = none) ∧
      ((watched.mon 15).subject = 0 ∧ (watched.mon 15).state ≠ .off) ∧
      ((after (exec .retire told)).slot 3 1).released = true ∧ ((after (exec .retire told)).mon 3).idleJob = none :=
  ⟨told_engineFits, by decide +kernel, by decide +kernel, by decide +kernel, by decide +kernel, by decide +kernel,
    by decide +kernel⟩

/-- RETIRE of a descriptor whose monitor's idle enqueue is on its way: the enqueue comes first (R155). -/
theorem test_retire_finishes_the_request :
    let s := after (exec (.goIdle 0) watched)
    (after (exec .retire (withParams [0] s))).eng.queue.length = 1 ∧
      ((after (exec .retire (withParams [0] s))).mon 0).state = .off := by decide +kernel

theorem paged_regionsAligned : RegionsAligned paged := by unfold RegionsAligned; decide +kernel

theorem paged_regionsDistinct : RegionsDistinct paged := by unfold RegionsDistinct; decide +kernel

theorem witness_WinnerIsTheSmallestCandidate :
    RegionsAligned paged ∧ RegionsDistinct paged ∧ (∀ d : Fin 64, (paged.desc (ordIdx d)).candidate 0x1000 = false) ∧
      (paged.desc (ordIdx 0)).candidate 0x0FFF = true :=
  ⟨paged_regionsAligned, paged_regionsDistinct, by decide +kernel, by decide +kernel⟩

theorem witness_ResolutionTakesTheStepsInOrder :
    (switching.desc 0).switching = true ∧ (paged.desc 0).switching = false ∧
      ((paged.desc 1).read = .fault ∧ (paged.desc 1).write = .fault) ∧
      ((paged.desc 0).read ≠ .fault ∧ (paged.desc 0).write ≠ .fault ∧ look (paged.desc 0).perms 3 = .readWrite) ∧
      look ({ page with perms := Vector.replicate 4 .read } : Desc).perms 3 = .read ∧
      look (paged.desc 1).perms 0 = .none ∧ ({ page with write := .discard } : Desc).write = .discard ∧
      ((copying.desc 0).state = .migrating ∧ copying.eng.active.isSome = true ∧
        copying.eng.lineInFlight = some ((copying.desc 0).lineOf 0x40) ∧
        copying.eng.lineInFlight ≠ some ((copying.desc 0).lineOf 0x3F)) := by decide +kernel

theorem witness_LegsGoToTheirWindows :
    let s := withDesc 0 { page with state := .migrating, write := .window ⟨0, 0⟩, mirror := some ⟨3, 0⟩ } copying
    resolveOn s 0 0 .read 0x10 = .legs [⟨.read, 0, 0x10, .ungranted⟩] ∧
      resolveOn s 0 0 .write 0x3F = .legs [⟨.write, 0, 0x3F, .ungranted⟩, ⟨.mirror, 3, 0x3F, .ungranted⟩,
        ⟨.destination, 2, 0x303F, .ungranted⟩] ∧
      resolveOn s 0 0 .write 0x80 = .legs [⟨.write, 0, 0x80, .ungranted⟩, ⟨.mirror, 3, 0x80, .ungranted⟩] := by
  decide +kernel

theorem witness_TranslationStaysInTargetSpace :
    page.contains 0xFFF = true ∧ (⟨3, 0xFFFF000⟩ : Window).fits page.size = true ∧
      (⟨3, 0xFFFF000⟩ : Window).aligned = true ∧ 12 ≤ page.size ∧ page.base.toNat % 2 ^ page.size = 0 := by decide

theorem witness_ReadingCommandsReportAndChangeNothing_probe :
    let p := (withParams [0x10000000, 0x0204] paged).mgmt.param
    let q := (withParams [0x0FFFFFFF, 0x0103] paged).mgmt.param
    (2 ^ 28 ≤ (look p 0).toNat ∧ 3 < bits (look p 1) 0 8 ∧ 1 < bits (look p 1) 8 8) ∧
      ((look q 0).toNat < 2 ^ 28 ∧ bits (look q 1) 0 8 = (3 : Fin 4).val ∧ bits (look q 1) 8 8 = 1) ∧
      paged.mgmt.busy = false := by decide +kernel

theorem witness_ReadingCommandsReportAndChangeNothing_words :
    let x : Desc := { page with size := 28, cur := 32, prev := 32, outcome := .failed .line (2 ^ 22 - 1) }
    (x.size ≤ 28 ∧ x.cur ≤ 32 ∧ x.prev ≤ 32 ∧ (2 ^ 22 - 1 < 2 ^ 22)) ∧
      look (withParams [0x3FFFFF] paged).mgmt.param 0 = (descriptorWords 0 x).getD 6 0 ∧
      ((watcher .counting 255).count ≤ 255 ∧ (watcher .counting 1).reload ≤ 255) ∧
      (probeWords 64 (.legs [⟨.write, 0, 0, .ungranted⟩, ⟨.mirror, 1, 0, .ungranted⟩, ⟨.destination, 3, 5, .ungranted⟩])
        = [0x00030040, 0x40000000, 0x90000000, 0xF0000005]) ∧
      jobWords { job with origin := .monitorWake 15 } true 8 5 true true (2 ^ 22) =
        [0x00053581, 0x00400000, 0x0F020200, 0x3000] := by decide +kernel

theorem witness_ReadingCommandsReportAndChangeNothing_records :
    paramIndex (withParams [64] paged).mgmt.param = (64 : DescIdx).val ∧
      15 < bits (look (withParams [16] paged).mgmt.param 0) 0 8 ∧
      bits (look (withParams [15] paged).mgmt.param 0) 0 8 = (15 : Fin 16).val := by decide +kernel

/-- The part copying, with a second job behind the first. -/
def queued : State := copying.modEng fun g => { g with queue := [{ job with id := 255, desc := 1 }] }

theorem witness_CancelJobEndsTheJob_and_QueryJob :
    queued.mgmt.busy = false ∧
      255 < bits (look (withParams [256] queued).mgmt.param 0) 0 16 ∧ (∀ j ∈ queued.eng.jobs, j.id.toNat ≠ 7) ∧
      queued.eng.queue.find? (fun q => decide (q.id.toNat = 255)) = some { job with id := 255, desc := 1 } ∧
      queued.eng.queue = [] ++ { job with id := 255, desc := 1 } :: [] ∧
      (queued.eng.active = some job ∧ job.id.toNat = 5 ∧ ∀ q ∈ queued.eng.queue, q.id.toNat ≠ 5) ∧
      queued.eng.state ≠ .cutover ∧ (cutover.eng.active = some job ∧ cutover.eng.state = .cutover) := by
  decide +kernel

theorem witness_StagedAndMonitorFieldsReadBack :
    let p := (withParams [0x3A55103F, 0x00120000, 0x00010000, 0x00020000, 0, 0x00000201] paged).mgmt.param
    (parseStage p).isSome = true ∧ paramIndex p = (63 : DescIdx).val ∧
      (parseMonitor (withParams [0x00FF000F, 0x0203, 0x010301, 0x0FFFFFFF, 0, 0] paged).mgmt.param).isSome = true := by
  decide +kernel

theorem witness_RequestIsTakenRefusedOrResolved :
    ((granted.port 1).ready = true ∧ (granted.slot 1 2).state ≠ .free ∧
        (granted.slot 1 2).tag = 9) ∧
      (∀ k, (granted.slot 1 k).state ≠ .free → (granted.slot 1 k).tag ≠ 8) ∧
      ((after (exec (.irstNAssert 1) granted)).port 1).ready = false := by decide +kernel

theorem witness_RequestIsTakenRefusedOrResolved_format :
    (64 < (0x3F : Addr).toNat % 64 + 2) ∧ ¬(64 < (0x3F : Addr).toNat % 64 + 1) ∧
      ¬(64 < (0x40 : Addr).toNat % 64 + 64) := by decide

theorem witness_ReleasedSlotsResolveInAcceptanceOrder :
    let s := after (exec (.responseTaken 0) switching)
    (s.port 3).resQueue = 2 :: [1] ∧ (s.port 0).resQueue = [] ∧
      (s.port 3).resQueue.Pairwise (fun j k => (s.slot 3 j).pos ≤ (s.slot 3 k).pos) := by decide +kernel

theorem witness_ResponseTakenFreesItsPlace :
    let s := after (exec (.acceptRequest 1 ⟨9, .read, 0, 1, []⟩) granted)
    (s.port 1).state = .active ∧ (s.port 1).answers = .collision :: [] ∧
      (s.port 1).collision = some 9 ∧
      ((switching.port 0).answers = .slot 0 :: [] ∧ (switching.port 1).answers = []) ∧
      ((switching.slot 0 0).response = some .done ∧ (switching.slot 0 0).dir = .read ∧
        (switching.slot 0 0).readData = some [1, 2, 3, 4] ∧
        (switching.port 0).presented = some (9, .done, [1, 2, 3, 4])) ∧
      (((after (exec (.responseTimerExpiry 0) granted)).port 1).answers = [.slot 2] ∧
        ((after (exec (.responseTimerExpiry 0) granted)).slot 1 2).response = some .targetErr) ∧
      ((after (exec (.irstNAssert 0) switching)).port 0).state = .resetting := by
  decide +kernel

theorem witness_PortResetFreesOrOrphans :
    ((granted.slot 1 2).state = .issued ∧ ∃ l ∈ (granted.slot 1 2).legs, l.status = .granted) ∧
      ((presented.slot 1 2).state = .waiting ∧ ¬∃ l ∈ (presented.slot 1 2).legs, l.status = .granted) ∧
      ((switching.slot 0 0).state = .issued ∧ ¬∃ l ∈ (switching.slot 0 0).legs, l.status = .granted) ∧
      (switching.slot 3 1).state = .held ∧ (switching.slot 3 0).state = .free := by decide +kernel

theorem witness_LegResultFinishesTheSlot :
    let two : Slot := { reader .issued .granted with legs := [⟨.write, 0, 0, .granted⟩, ⟨.mirror, 1, 0, .granted⟩] }
    ¬(∀ l ∈ setLegStatus .write .ok two.legs, l.status = .ok ∨ l.status = .error) ∧
      (∀ l ∈ setLegStatus .read .ok (granted.slot 1 2).legs, l.status = .ok ∨ l.status = .error) ∧
      (granted.slot 1 2).state = .issued ∧
      ((after (exec (.irstNAssert 1) granted)).slot 1 2).state = .orphaned := by decide +kernel

theorem witness_UncountLowersACountOrEndsADrain :
    let s := withDesc 0 { page with state := .draining, cur := 1 } State.reset
    let t := withDesc 0 { page with state := .draining, gen := 1, prev := 1 } State.reset
    ((granted.desc 0).gen = 0 ∧ (granted.desc 0).state ≠ .draining) ∧
      ((s.desc 0).state = .draining ∧ (s.desc 0).switching = false ∧ (s.desc 0).gen = 0 ∧ (s.desc 0).cur = 1 ∧
        (s.desc 0).prev = 0) ∧
      ((t.desc 0).state = .draining ∧ (t.desc 0).gen ≠ 0 ∧ (t.desc 0).cur = 0 ∧ (t.desc 0).prev = 1) := by
  decide +kernel

theorem witness_LastOldTransactionCompletesTheSwitch :
    (EngineFits switching ∧ SwitchesWait switching ∧ (0 : BitVec 8) ≠ (switching.desc 0).gen ∧
        (switching.desc 0).switching = true ∧ (switching.desc 0).prev = 1) ∧
      (EngineFits cutover ∧ SwitchesWait cutover ∧ (cutover.desc 0).state = .migrating ∧
        (cutover.desc 0).switching = true ∧ (cutover.desc 0).prev = 1) ∧
      (switching.slot 3 1).named (Hold.onSwitch 0) = true ∧ (switching.desc 0).state ≠ .migrating ∧
      switching.eng.active = none ∧
      (EngineFits starting ∧ SwitchesWait starting ∧ (starting.desc 0).switching = true ∧ (starting.desc 0).prev = 1) ∧
      (starting.eng.active = some job ∧ starting.eng.state = .starting ∧ ordIdx job.desc = 0) ∧
      startVerdict { starting.desc 0 with switching := false, prev := 0 } job = .pass ∧
      startVerdict { starting.desc 0 with switching := false, prev := 0 } { job with dest := ⟨0, 0⟩ } = .fail .overlap :=
  ⟨⟨switching_engineFits, by unfold SwitchesWait; decide +kernel, by decide +kernel, by decide +kernel,
      by decide +kernel⟩,
    ⟨cutover_engineFits, by unfold SwitchesWait; decide +kernel, by decide +kernel, by decide +kernel,
      by decide +kernel⟩, by decide +kernel, by decide +kernel, by decide +kernel,
    ⟨starting_engineFits, by unfold SwitchesWait; decide +kernel, by decide +kernel, by decide +kernel⟩,
    by decide +kernel, by decide +kernel, by decide +kernel⟩

theorem witness_GrantServesTheNextRequester :
    let full := State.reset.modTPort 0 fun p =>
      { p with queue := List.replicate 16 ⟨⟨.read, 0, 1, []⟩, 0, .meng, false⟩ }
    let gone := presented.modTPort 0 fun p => { p with state := .offline }
    ((paged.tport 0).lastGranted.turnAfter.find? (presents paged 0) = none ∧ (paged.tport 0).queue.length < 16) ∧
      ((presented.tport 0).lastGranted.turnAfter.find? (presents presented 0) = some (.ip 1) ∧
        look (presented.port 1).legQueues 0 = ⟨2, .read⟩ :: []) ∧
      (copying.tport 0).lastGranted.turnAfter.find? (presents copying 0) = some .meng ∧
      mengRequest copying 0 = some ⟨.read, 0x40, 64, []⟩ ∧
      ((full.tport 0).state = .online ∧ 16 ≤ (full.tport 0).queue.length) ∧
      ((gone.tport 0).state = .offline ∧
        (gone.tport 0).lastGranted.turnAfter.find? (presents gone 0) = some (.ip 1)) := by decide +kernel

theorem witness_TargetTakesInQueueOrder :
    (∃ r, (granted.tport 0).queue = [] ++ r :: [] ∧ r.taken = false) ∧
      ∀ r ∈ ((after (exec (.targetRequestTaken 0) granted)).tport 0).queue, r.taken = true :=
  ⟨⟨⟨⟨.read, 0x10, 4, []⟩, 0, .leg 1 2 .read, false⟩, by decide +kernel, rfl⟩, by decide +kernel⟩

theorem witness_MatchingResponseGoesToItsOwner :
    (granted.tport 0).state = .online ∧ (granted.tport 0).queue ≠ [] := by decide +kernel

theorem witness_ProtocolErrorAndExpiryGoOffline :
    (granted.tport 0).state = .online ∧ ((granted.tport 0).queue.map TReq.num = [0]) ∧
      (granted.tport 0).timer.isSome = true ∧ (paged.tport 0).queue = [] ∧
      (offline.tport 2).state = .offline := by decide +kernel

theorem granted_targetPortsFit : TargetPortsFit granted := by
  intro t
  have h : (granted.tport t).fits ↔ (t = 0 → (granted.tport 0).fits) ∧ (t ≠ 0 → TPort.powerOn.fits) := by
    by_cases e : t = 0
    · subst e; simp
    · have e' : granted.tport t = TPort.powerOn := by revert e; revert t; decide +kernel
      simp [e, e']
  refine h.2 ⟨fun _ => ?_, fun _ => ?_⟩
  · refine ⟨by decide +kernel, fun k r e => ?_, by decide +kernel, by decide +kernel, fun n e => ?_, fun n e => ?_⟩
    · match k with
      | 0 => cases (show some _ = some r from e); decide +kernel
      | k + 1 => cases (show none = some r from e)
    · cases (show none = some n from e)
    · cases (show some 10 = some n from e); decide +kernel
  · refine ⟨by decide, fun k r e => ?_, by decide, by decide, fun n e => ?_, fun n e => ?_⟩
    · cases (show none = some r from e)
    · cases (show none = some n from e)
    · cases (show none = some n from e)

theorem witness_TimeoutWriteActsAtOnce :
    TargetPortsFit granted ∧ timeoutOf 0x02 0 ≠ timeoutOf granted.mgmt.tgtTimeout 0 ∧
      timeoutOf 0x02 1 = timeoutOf granted.mgmt.tgtTimeout 1 ∧ (granted.tport 0).queue ≠ [] :=
  ⟨granted_targetPortsFit, by decide +kernel, by decide +kernel, by decide +kernel⟩

theorem witness_RestoreBringsThePortOnline :
    let p := (withParams [4] offline).mgmt.param
    let q := (withParams [3] offline).mgmt.param
    let s := after (exec .restoreTarget (withParams [2] offline))
    3 < bits (look p 0) 0 8 ∧ bits (look q 0) 0 8 = (3 : Fin 4).val ∧ (offline.tport 3).state = .online ∧
      (offline.tport 2).state = .offline ∧ offline.mgmt.busy = false ∧
      ((s.tport 2).restoring.isSome = true ∧ s.resetAsserted = false) := by decide +kernel

/-- The part with an idle engine and the page's job queued. -/
def waiting : State := paged.modEng fun g => { g with queue := [job] }

theorem witness_HeadJobTakesItsStartChecks :
    (waiting.eng.queue = job :: [] ∧ waiting.eng.state = .idle ∧ waiting.eng.haltPending = false) ∧
      startVerdict (waiting.desc (ordIdx 0)) job = .pass ∧
      startVerdict (State.reset.desc (ordIdx 0)) job = .fail .state ∧
      startVerdict (switching.desc (ordIdx 0)) job = .wait ∧
      startVerdict { page with read := .fault } job = .fail .route ∧
      startVerdict page { job with dest := ⟨0, 0xFFF⟩ } = .fail .overlap ∧
      startVerdict page { job with dest := ⟨0, 0x1000⟩ } = .pass ∧
      startVerdict page { job with dest := ⟨2, 0xFFFF001⟩ } = .fail .range ∧
      startVerdict page { job with dest := ⟨2, 0xFFFF000⟩ } = .pass := by decide +kernel

theorem witness_PassingJobStarts :
    let s := waiting.modEng fun g => { g with queue := [], active := some job, state := .starting }
    s.eng.active = some job ∧ s.eng.state = .starting ∧ startVerdict (s.desc (ordIdx 0)) job = .pass ∧
      startVerdict ((s.modDesc 0 fun x => { x with read := .fault }).desc (ordIdx 0)) job = .fail .route ∧
      (starting.eng.state = .starting ∧ startVerdict (starting.desc (ordIdx 0)) job = .wait) ∧
      paged.eng.active = none ∧ copying.eng.state ≠ .starting := by
  decide +kernel

theorem witness_LineBeginsUnderItsConditions :
    let s := copying.modEng fun g => { g with lineInFlight := none, lineStep := none, cursor := 63, credits := 1 }
    let r := copying.modEng fun g => { g with lineStep := some .retryWait }
    (s.lineReady = true ∧ s.retryReady = false) ∧ r.retryReady = true ∧
      (copying.lineReady = false ∧ copying.retryReady = false) := by decide +kernel

theorem witness_CopyRequestsOfALine :
    let w := copying.modEng fun g => { g with lineStep := some .destWrite, lineData := some (List.replicate 64 7) }
    copying.eng.active = some job ∧ (copying.desc (ordIdx 0)).read = .window ⟨0, 0⟩ ∧
      copying.eng.lineStep = some .sourceRead ∧ mengRequest copying 0 = some ⟨.read, 0x40, 64, []⟩ ∧
      mengRequest w 2 = some ⟨.write, 0x3040, 64, List.replicate 64 7⟩ := by decide +kernel

theorem witness_CopyResultsCompleteOrRetryTheLine :
    let w := copying.modEng fun g => { g with lineStep := some .destWrite, cursor := 63, lineInFlight := some 63 }
    let a := State.reset.modEng fun g => { g with state := .aborting, outstanding := 1 }
    (copying.eng.state ≠ .aborting ∧ copying.eng.lineStep = some .sourceRead ∧ copying.eng.lineInFlight = some 1) ∧
      (copying.eng.retryCount < bits copying.mgmt.retry 0 2) ∧
      bits copying.mgmt.retry 0 2 ≤ (copying.modEng fun g => { g with retryCount := 1 }).eng.retryCount ∧
      (w.eng.lineStep = some .destWrite ∧ w.eng.cursor + 1 = 2 ^ ((w.desc (ordIdx 0)).size - 6)) ∧
      a.eng.state = .aborting := by decide +kernel

theorem witness_CutoverInstallsTheDestination :
    (copying.eng.active = some job ∧ copying.eng.started = true ∧ EngineFits copying ∧
        (copying.desc (ordIdx 0)).switching = false) ∧ (copying.desc (ordIdx 0)).cur = 0 ∧
      (copying.modDesc 0 fun x => { x with cur := 1 }).eng.active = some job ∧
      ((copying.modDesc 0 fun x => { x with cur := 1 }).desc (ordIdx 0)).cur ≠ 0 :=
  ⟨⟨rfl, rfl, copying_engineFits, by decide +kernel⟩, by decide +kernel, rfl, by decide +kernel⟩

theorem witness_MirrorFailureEndsTheJob :
    let l : Leg := ⟨.destination, 2, 0x3FFF, .granted⟩
    let s := withSlot 1 2 { reader .issued .granted with dir := .write, legs := [⟨.write, 0, 0, .ok⟩, l] } copying
    (s.slot 1 2).counted = some ⟨0, 0, 0⟩ ∧
      (setLegStatus .destination .error (s.slot 1 2).legs).find? (fun l => decide (l.role = .destination)) =
        some { l with status := .error } ∧
      (s.eng.active = some job ∧ ordIdx job.desc = 0 ∧ s.eng.started = true ∧ s.eng.state = .copying ∧
        job.dest.target = l.target ∧ job.dest.base.toNat ≤ l.addr.toNat ∧
        l.addr.toNat < job.dest.base.toNat + 2 ^ (s.desc 0).size) ∧
      (legResult 1 2 .destination .error [] s).eng.active = none ∧
      (s.desc 1).size = 12 ∧ ¬(∀ l ∈ (s.slot 1 2).legs, l.status = .ok ∨ l.status = .error) := by decide +kernel

theorem witness_MirrorFailureEndsTheJob_finish :
    ((switching.slot 0 0).state = .issued ∧ ∀ l ∈ (switching.slot 0 0).legs, l.status = .ok ∨ l.status = .error) ∧
      (switching.slot 3 1).state = .held ∧ (switching.slot 3 0).state = .free ∧
      (reader .orphaned .ok).state = .orphaned ∧ (∀ l ∈ (reader .orphaned .ok).legs, l.status = .ok ∨ l.status = .error) ∧
      (reader .waiting .ok).state = .waiting := by decide +kernel

theorem witness_JobEndWritesItsOutcome : copying.eng.active = some job := by decide +kernel

theorem witness_QueueMigrationChecksThenQueues :
    let p := (withParams [0x00000341, 0x10000000] paged).mgmt.param
    let q := (withParams [0x00000340, 0] paged).mgmt.param
    let r := (withParams [0x0001033F, 0x0FFFFFFF] paged).mgmt.param
    (64 < paramIndex p ∧ 2 ^ 28 ≤ (look p 1).toNat) ∧
      (paramIndex q = 64 ∧ bits (look q 0) 8 8 ≤ 3 ∧ (look q 1).toNat < 2 ^ 28 ∧ bits (look q 0) 16 8 ≤ 1) ∧
      (paramIndex r = (63 : Fin 64).val ∧ bits (look r 0) 8 8 = (3 : Fin 4).val ∧
        (look r 1).toNat = (0x0FFFFFFF : Addr).toNat ∧ bits (look r 0) 16 8 = 1) ∧
      paged.mgmt.busy = false ∧ paged.eng.queue.length ≤ 8 := by decide +kernel

theorem witness_HaltStopsAndResumeGoesOn :
    let h := copying.modEng fun g => { g with state := .halted, lineInFlight := none, lineStep := none }
    (paged.eng.state = .idle ∧ paged.eng.haltPending = false ∧ paged.mgmt.busy = false) ∧
      starting.eng.state = .starting ∧ (copying.eng.state = .copying ∧ copying.eng.lineInFlight ≠ none) ∧
      cutover.eng.state = .cutover ∧
      (h.eng.state = .halted ∧ h.eng.active = some job ∧ h.eng.started = true ∧
        h.eng.cursor ≠ 2 ^ ((h.desc (ordIdx 0)).size - 6)) ∧
      (h.modEng fun g => { g with cursor := 64 }).eng.cursor = 2 ^ ((h.desc (ordIdx 0)).size - 6) ∧
      (h.modEng fun g => { g with started := false }).eng.started = false ∧
      ((after (exec .haltEngine paged)).eng.state = .halted ∧ (after (exec .haltEngine paged)).eng.active = none) ∧
      (State.reset.modEng fun g => { g with state := .aborting, outstanding := 1 }).eng.state = .aborting ∧
      (copying.modEng fun g => { g with lineInFlight := none, lineStep := none }).eng.lineInFlight = none := by
  decide +kernel

/-- A HALTED engine without a job and with one queued: RESUME makes it active at once, and it starts (R115, R109, R110). -/
theorem witness_HaltStopsAndResumeGoesOn_queued :
    let h := paged.modEng fun g => { g with state := .halted, queue := [job] }
    h.eng.state = .halted ∧ h.eng.active = none ∧ h.eng.queue = job :: [] ∧ h.eng.haltPending = false ∧
      (after (exec .resumeEngine h)).eng.state = .copying := by decide +kernel

theorem witness_NotificationReloadsOrWakes :
    let asks (a : Ask) := watched.modMon 7 fun x => { x with state := .counting, count := 3, ask := some a }
    let w := asks (.withdraw 5)
    let q := w.modEng fun g => { g with queue := [job] }
    (ordIdx (watched.mon 7).subject = 0 ∧ (watched.mon 7).filter = .both ∧ (watched.mon 7).state = .idle) ∧
      ((watched.mon 0).state = .counting ∧ ordIdx (watched.mon 1).subject = 0 ∧ (watched.mon 1).state = .off) ∧
      (watched.mon 7).ask = none ∧ q.eng.queue.find? (fun j => decide (j.id = 5)) = some job ∧
      ((w.mon 7).ask = some (.withdraw 5) ∧ w.eng.queue.find? (fun j => decide (j.id = 5)) = none) ∧
      (((asks .wake).mon 7).ask = some .wake ∧ ((asks .wake).mon 7).wakeT = some ⟨⟨2, 0x3000⟩, .move⟩) ∧
      enqueueRefusal (asks .wake) 0 ⟨2, 0x3000⟩ = none ∧ enqueueRefusal q 0 ⟨2, 0x3000⟩ = some .duplicate := by
  decide +kernel

theorem watched_monitorsFit : MonitorsFit watched := by
  intro m
  have h : watched.mon m = watcher .counting 1 ∨ watched.mon m = watcher .counting 2 ∨
      watched.mon m = watcher .idle 0 ∨ watched.mon m = Monitor.cleared := by revert m; decide +kernel
  refine ⟨?_, ?_⟩
  · rcases h with h | h | h | h <;> rw [h] <;> refine ⟨by decide, by decide, by decide, by decide, ?_⟩
    · exact (⟨by decide, by decide, by decide⟩ : 1 ≤ 1 ∧ 1 ≤ 3 ∧ (none : Option Ask) ≠ some .idle)
    · exact (⟨by decide, by decide, by decide⟩ : 1 ≤ 2 ∧ 2 ≤ 3 ∧ (none : Option Ask) ≠ some .idle)
    · exact (⟨rfl, .inl rfl⟩ : 0 = 0 ∧ ((none : Option Ask) = none ∨ none = some Ask.idle))
    · exact (⟨rfl, rfl, rfl⟩ : 0 = 0 ∧ (none : Option (BitVec 8)) = none ∧ (none : Option Ask) = none)
  · rcases h with h | h | h | h <;> rw [h] <;> decide +kernel

theorem witness_TickCountsDown :
    MonitorsFit watched ∧ (watched.mon 0).tickSel = .t100u ∧ (watched.mon 0).state = .counting ∧
      (watched.mon 0).count = 1 ∧ 1 < (watched.mon 15).count ∧ (watched.mon 0).tickSel ≠ .t1m ∧
      (watched.mon 7).state ≠ .counting :=
  ⟨watched_monitorsFit, by decide +kernel, by decide +kernel, by decide +kernel, by decide +kernel, by decide +kernel,
    by decide +kernel⟩

theorem witness_MonitorGoesIdle :
    let u := watched.modMon 0 fun x => { x with ask := some .wake }
    let v := after (exec (.goIdle 0) watched)
    ((watched.mon 0).state = .counting ∧ (watched.mon 0).count = 1 ∧ (watched.mon 0).ask = none) ∧
      ((u.mon 0).state = .counting ∧ (u.mon 0).count = 1 ∧ (u.mon 0).ask ≠ none) ∧
      ((v.mon 0).ask = some .idle ∧ (v.mon 0).idleT = some ⟨⟨2, 0x3000⟩, .move⟩) ∧
      enqueueRefusal v 0 ⟨2, 0x3000⟩ = none ∧ enqueueRefusal v 0 ⟨0, 0⟩ = some .overlap := by decide +kernel

theorem witness_MonitorsAreSetAndStopped :
    let p (w : Word) := bits (look (withParams [w] watched).mgmt.param 0) 0 8
    let q (w : Word) := bits (look (withParams [w] watched).mgmt.param 0) 8 8
    (15 < p 16 ∧ p 15 = (15 : Fin 16).val ∧ 63 < q 0x4000 ∧ q 0x3F00 = (63 : Fin 64).val) ∧
      (watched.mon 15).state ≠ .off ∧ (watched.mon 1).state = .off ∧
      (watched.desc (ordIdx 0)).state = .live ∧ (watched.desc (ordIdx 63)).state = .free ∧
      parseMonitor (withParams [0x01000000, 0] watched).mgmt.param = none ∧
      (parseMonitor (withParams [0x00FF0000, 0] watched).mgmt.param).isSome = true ∧ watched.mgmt.busy = false ∧
      (watched.mon 15).ask = none ∧
      ((after (exec (.goIdle 0) watched)).mon 0).ask ≠ none ∧ ((after (exec (.goIdle 0) watched)).mon 0).state ≠ .off := by
  decide +kernel

/-- The bounds of SET MONITOR's fields (R152, R177). -/
theorem test_set_monitor_bounds :
    let parses (ws : List Word) := (parseMonitor (withParams ws paged).mgmt.param).isSome
    parses [0x00FF0000, 0x0203, 0x010301, 0x0FFFFFFF, 0x02, 0] = false ∧
      parses [0x00FF0000, 0x0203, 0x010301, 0x0FFFFFFF, 0x010301, 0x0FFFFFFF] = true ∧
      parses [0x00000000, 0x0203] = false ∧ parses [0x00010000, 0x0204] = false ∧ parses [0x00010000, 0x0303] = false ∧
      parses [0x00010000, 0, 0x0401, 0] = false ∧ parses [0x00010000, 0, 0x020001, 0] = false ∧
      parses [0x00010000, 0, 0x01, 0x10000000] = false ∧ parses [0x00010000, 0, 0x020400, 0x10000000] = true := by
  decide +kernel

theorem witness_EventFlagsAndRoutes : paged.resetAsserted = false := by decide +kernel

theorem witness_CommandWritesWhileBusyOrUnassigned :
    (after (exec .restoreTarget (withParams [2] offline))).mgmt.busy = true ∧ paged.mgmt.busy = false ∧
      bits 0x100 0 8 = 0 ∧ 16 < bits 0x11 0 8 := by decide +kernel

theorem witness_ParamWriteStoresAndReadsBack :
    (4 : BitVec 6).toNat = 4 + (0 : Fin 6).val ∧ (9 : BitVec 6).toNat = 4 + (5 : Fin 6).val ∧
      10 ≤ (10 : BitVec 6).toNat ∧ (23 : BitVec 6).toNat < 24 ∧ 34 < (63 : BitVec 6).toNat := by decide

theorem witness_WindowReadsTheState : copying.eng.queue.length ≤ 8 := by decide +kernel

/-! ## States that meet the laws

The law that a step keeps, at a state whose step takes a command. -/

/-- That state with one command waiting. -/
def sending (c : Instr) (s : State) : State := { s with pending := [c] }

theorem witness_FloorAndRegionsStayLawful :
    FloorFixed paged ∧ RegionsAligned paged ∧ RegionsDistinct paged ∧
      ∃ t, step (sending .lineBegin paged) = .next t :=
  ⟨by unfold FloorFixed; decide +kernel, paged_regionsAligned, paged_regionsDistinct, _, rfl⟩

theorem witness_EngineAndMapStayInStep :
    EngineFits copying ∧ UnusedAtRest copying ∧ SwitchesWait copying ∧
      ∃ t, step (sending (.arbiterGrant 0) copying) = .next t :=
  ⟨copying_engineFits, by unfold UnusedAtRest; decide +kernel, by unfold SwitchesWait; decide +kernel, _, rfl⟩

theorem witness_JobsAndCreditsStayInBounds :
    JobsDistinct queued ∧ CreditsBounded (queued.modMgmt fun g => { g with budget := 0x0310 }) ∧
      ∃ t, step (sending .budgetExpiry queued) = .next t :=
  ⟨by unfold JobsDistinct; decide +kernel, by unfold CreditsBounded; decide +kernel, _, rfl⟩

theorem witness_TargetPortsStayFit :
    TargetPortsFit granted ∧ BusyIsRestoring granted ∧
      ∃ t, step (sending (.responseTimerExpiry 0) granted) = .next t :=
  ⟨granted_targetPortsFit, by unfold BusyIsRestoring; decide +kernel, _, rfl⟩

theorem witness_MonitorsStayFit :
    MonitorsFit watched ∧ ∃ t, step (sending (.tick .t100u) watched) = .next t := ⟨watched_monitorsFit, _, rfl⟩

theorem granted_slots :
    ∀ i k, granted.slot i k = Slot.blank ∨ granted.slot i k = reader .issued .granted := by decide +kernel

theorem granted_portsFit : PortsFit granted := by
  intro i
  refine ⟨⟨fun t => ⟨by revert i t; decide +kernel, fun ⟨k, r⟩ => ?_⟩, ⟨by revert i; decide +kernel,
    by revert i; decide +kernel, by revert i; decide +kernel⟩, by revert i; decide +kernel, by revert i; decide +kernel⟩,
    ⟨by revert i; decide +kernel, by revert i; decide +kernel⟩, fun k => ?_⟩
  · cases r <;> revert i t k <;> decide +kernel
  · rcases granted_slots i k with h | h <;> rw [h]
    · exact ⟨by decide, (rfl : Slot.blank = Slot.blank)⟩
    · refine ⟨by decide, ?_⟩
      show (∀ l ∈ (reader .issued .granted).legs, l.status ≠ .ungranted) ∧
        ((reader .issued .granted).legs ≠ [] → (reader .issued .granted).counted.isSome = true) ∧
        ((reader .issued .granted).response.isSome = true ↔
          ∀ l ∈ (reader .issued .granted).legs, l.status ≠ .granted)
      decide

theorem granted_ownersFit : OwnersFit granted := by
  refine ⟨fun t i k r => ?_, by decide +kernel⟩
  cases r <;> revert t i k <;> decide +kernel

theorem granted_engineFits : EngineFits granted :=
  engineFits_of_quiet (by unfold Engine.stateFits; exact ⟨rfl, rfl⟩) rfl rfl rfl (by decide +kernel)
    ⟨by decide +kernel, by decide +kernel⟩ (by decide +kernel)

theorem witness_TransactionsStayFit :
    TransactionsFit granted ∧ ∃ t, step (sending (.targetResponse 0 0 .ok [8, 8, 8, 8]) granted) = .next t :=
  ⟨⟨granted_portsFit, granted_ownersFit, by unfold CountsMatchSlots; decide +kernel, granted_targetPortsFit,
    granted_engineFits, by unfold UnusedAtRest; decide +kernel, by unfold SwitchesWait; decide +kernel,
    by unfold FloorFixed; decide +kernel⟩, _, rfl⟩

end Sys2Proof.Tests
end

section
/-! SUPPORT. The laws of the map and of the engine, one descriptor at a time: what an operation may do to a descriptor
that keeps the regions lawful (R1, R2, R9, R16), and when a descriptor stands right beside the engine (R11, R12, R49, R53,
R110). -/

namespace Sys2Proof.Machine

variable {s t u : State}

/-! ## Regions -/

/-- What every operation but ACTIVATE and power-on reset may do to descriptor `d`: the region stays and comes into no
use it was not in, or the descriptor is left out of use with a size in range; a LIVE floor stays as it is. -/
def Desc.RegionStep (d : DescIdx) (x y : Desc) : Prop :=
  (d = floorIdx → x.state = .live → y.state = .live ∧ y.base = x.base ∧ y.size = x.size) ∧
    ((y.base = x.base ∧ y.size = x.size ∧ (y.holdsRegion = true → x.holdsRegion = true)) ∨
      (y.holdsRegion = false ∧ 12 ≤ y.size ∧ y.size ≤ 28))

/-- Every descriptor takes such a step. -/
def RegionsStep (s t : State) : Prop := ∀ d, Desc.RegionStep d (s.desc d) (t.desc d)

theorem Desc.RegionStep.refl (d : DescIdx) (x : Desc) : Desc.RegionStep d x x :=
  ⟨fun _ h => ⟨h, rfl, rfl⟩, .inl ⟨rfl, rfl, id⟩⟩

theorem Desc.RegionStep.trans {d : DescIdx} {x y z : Desc} (h : Desc.RegionStep d x y) (k : Desc.RegionStep d y z) :
    Desc.RegionStep d x z := by
  obtain ⟨hfloor, hord⟩ := h
  obtain ⟨kfloor, kord⟩ := k
  refine ⟨fun hd hx => ?_, ?_⟩
  · obtain ⟨hy, hb, hs⟩ := hfloor hd hx
    obtain ⟨hz, kb, ks⟩ := kfloor hd hy
    exact ⟨hz, kb.trans hb, ks.trans hs⟩
  · rcases kord with ⟨kb, ks, kh⟩ | hout
    · rcases hord with ⟨hb, hs, hh⟩ | ⟨hy, hlo, hhi⟩
      · exact .inl ⟨kb.trans hb, ks.trans hs, hh ∘ kh⟩
      · refine .inr ⟨?_, ks ▸ hlo, ks ▸ hhi⟩
        by_contra hz
        exact absurd (kh (by simpa using hz)) (by simp [hy])
    · exact .inr hout

/-- A descriptor that goes at most from MIGRATING to LIVE keeps its region, whatever else of it but the region
changes. -/
theorem Desc.regionStep_settled (d : DescIdx) {x y : Desc} (hb : y.base = x.base) (hz : y.size = x.size)
    (hs : y.state = x.state ∨ x.state = .migrating ∧ y.state = .live) : Desc.RegionStep d x y := by
  rcases hs with h | ⟨hx, hy⟩
  · exact ⟨fun _ hl => ⟨h.trans hl, hb, hz⟩, .inl ⟨hb, hz, by simp [Desc.holdsRegion, Desc.inUse, h]⟩⟩
  · exact ⟨fun _ hl => ⟨hy, hb, hz⟩, .inl ⟨hb, hz, fun _ => by simp [Desc.holdsRegion, Desc.inUse, hx]⟩⟩

/-- MIGRATING becoming LIVE on a condition is such a change. -/
theorem settled_ite {c : Prop} [Decidable c] {a : DescState} (h : c → a = .migrating) :
    (if c then .live else a) = a ∨ a = .migrating ∧ (if c then DescState.live else a) = .live := by
  split
  · next hc => exact .inr ⟨h hc, rfl⟩
  · exact .inl rfl

theorem RegionsStep.refl : RegionsStep s s := fun d => .refl d _

theorem RegionsStep.trans (h : RegionsStep s t) (k : RegionsStep t u) : RegionsStep s u := fun d => (h d).trans (k d)

theorem RegionsStep.of_map (h : RegionsStep s t) (hm : u.map = t.map) : RegionsStep s u := fun d => by
  show Desc.RegionStep d (s.desc d) (look u.map d)
  rw [hm]
  exact h d

theorem regionsStep_modDesc (d : DescIdx) (f : Desc → Desc) (h : Desc.RegionStep d (s.desc d) (f (s.desc d))) :
    RegionsStep s (s.modDesc d f) := fun e => by
  rw [State.modDesc_desc]
  split
  · next he => subst he; exact h
  · exact .refl e _

theorem RegionsStep.floor (h : RegionsStep s t) (hs : FloorFixed s) : FloorFixed t := by
  obtain ⟨hlive, hbase, hsize⟩ := hs
  obtain ⟨hl, hb, hz⟩ := (h floorIdx).1 rfl hlive
  exact ⟨hl, hb.trans hbase, hz.trans hsize⟩

theorem RegionsStep.aligned (h : RegionsStep s t) (hs : RegionsAligned s) : RegionsAligned t := fun d => by
  obtain ⟨hlo, hhi, hal⟩ := hs d
  rcases (h (ordIdx d)).2 with ⟨hb, hz, hold⟩ | ⟨hout, hl, hh⟩
  · rw [hb, hz]; exact ⟨hlo, hhi, fun hu => hal (hold hu)⟩
  · exact ⟨hl, hh, fun hu => absurd hu (by simp [hout])⟩

/-- A descriptor in use after such a step was in use before it, with the same region. -/
theorem RegionsStep.held {d : DescIdx} (h : RegionsStep s t) (hd : (t.desc d).holdsRegion = true) :
    (s.desc d).holdsRegion = true ∧ (t.desc d).base = (s.desc d).base ∧ (t.desc d).size = (s.desc d).size := by
  rcases (h d).2 with ⟨hb, hz, hold⟩ | ⟨hout, _, _⟩
  · exact ⟨hold hd, hb, hz⟩
  · rw [hout] at hd; cases hd

theorem RegionsStep.distinct (h : RegionsStep s t) (hs : RegionsDistinct s) : RegionsDistinct t :=
  fun d e hne hd he => by
    obtain ⟨hd', hdb, hdz⟩ := h.held hd
    obtain ⟨he', heb, hez⟩ := h.held he
    rw [hdb, hdz, heb, hez]
    exact hs d e hne hd' he'

/-! ## Descriptors beside the engine -/

/-- The engine's record alone is one that R108 and R121 allow. -/
def Engine.fits (g : Engine) : Prop := g.stateFits ∧ g.lineFits ∧ g.requestFits

/-- The engine copies descriptor `d`: its active job names it and has started (R110). -/
def Engine.copies (g : Engine) (d : DescIdx) : Prop := g.started = true ∧ ∃ j, g.active = some j ∧ ordIdx j.desc = d

/-- The switch and the counts of a descriptor agree with its state (R11, R49, R53). -/
def Desc.countsRest (d : DescIdx) (x : Desc) : Prop :=
  (d ≠ floorIdx → x.state = .free ∨ x.state = .staged → x.cur = 0) ∧
    (x.switching = true → x.inUse = true ∧ x.cur = 0 ∧ x.prev ≠ 0) ∧
    (x.prev ≠ 0 → x.switching = true ∨ x.state = .draining)

/-- Descriptor `d` stands right beside the engine: its counts rest, it is MIGRATING exactly while the engine copies it
(R110), and then it is switching in CUTOVER alone (R12). -/
def Desc.stands (g : Engine) (d : DescIdx) (x : Desc) : Prop :=
  x.countsRest d ∧ (x.state = .migrating ↔ g.copies d) ∧
    (x.state = .migrating → (x.switching = true ↔ g.state = .cutover))

/-- The laws of the map's switches and of the engine, together. -/
def MapFits (s : State) : Prop := EngineFits s ∧ UnusedAtRest s ∧ SwitchesWait s

theorem copies_ordIdx (g : Engine) (d : Fin 64) :
    g.copies (ordIdx d) ↔ g.started = true ∧ g.active.map Job.desc = some d := by
  simp [Engine.copies]

theorem not_copies_floor (g : Engine) : ¬g.copies floorIdx := by
  rintro ⟨_, j, _, h⟩
  exact ordIdx_ne_floor _ h

/-- At most one descriptor is copied. -/
theorem Engine.copies_unique {g : Engine} {d e : DescIdx} (h : g.copies d) (k : g.copies e) : d = e := by
  obtain ⟨_, i, hi, rfl⟩ := h
  obtain ⟨_, j, hj, rfl⟩ := k
  rw [hi] at hj
  rw [Option.some.inj hj]

theorem Engine.copies_congr {g h : Engine} (ha : h.active = g.active) (hs : h.started = g.started) (d : DescIdx) :
    h.copies d ↔ g.copies d := by
  simp [Engine.copies, ha, hs]

/-- The laws of the map and the engine, one descriptor at a time. -/
theorem mapFits_iff : MapFits s ↔ s.eng.fits ∧ ∀ d, (s.desc d).stands s.eng d := by
  constructor
  · rintro ⟨⟨hstate, hline, hreq, ⟨hfloor, hmig⟩, hcut⟩, hrest, hwait⟩
    refine ⟨⟨hstate, hline, hreq⟩, fun d => ?_⟩
    obtain ⟨hsw, hprev⟩ := hwait d
    rcases idx_cases d with rfl | ⟨e, rfl⟩
    · exact ⟨⟨fun h => absurd rfl h, hsw, hprev⟩,
        ⟨fun h => absurd h hfloor, fun h => absurd h (not_copies_floor _)⟩, fun h => absurd h hfloor⟩
    · exact ⟨⟨fun _ h => (hrest e h).2.1, hsw, hprev⟩, (hmig e).trans (copies_ordIdx _ e).symm, hcut e⟩
  · rintro ⟨⟨hstate, hline, hreq⟩, hd⟩
    refine ⟨⟨hstate, hline, hreq, ⟨fun h => not_copies_floor _ ((hd floorIdx).2.1.1 h), fun d => ?_⟩, fun d => ?_⟩,
      fun d hout => ?_, fun d => (hd d).1.2⟩
    · exact (hd (ordIdx d)).2.1.trans (copies_ordIdx _ d)
    · exact (hd (ordIdx d)).2.2
    · obtain ⟨hcur, hsw, hprev⟩ := (hd (ordIdx d)).1
      have hns : (s.desc (ordIdx d)).switching = false := by
        by_contra h
        have := (hsw (by simpa using h)).1
        rcases hout with h | h <;> simp [Desc.inUse, h] at this
      refine ⟨hns, hcur (ordIdx_ne_floor d) hout, ?_⟩
      by_contra h
      rcases hprev h with h | h
      · simp [hns] at h
      · rcases hout with k | k <;> simp [h] at k

/-! ## What an operation keeps -/

/-- From `s` to `t` the laws of the regions, and those of the map's switches and the engine, are kept. -/
structure MapKept (s t : State) : Prop where
  floor    : FloorFixed s → FloorFixed t
  aligned  : RegionsAligned s → RegionsAligned t
  distinct : RegionsDistinct s → RegionsDistinct t
  fits     : MapFits s → MapFits t

theorem MapKept.refl : MapKept s s := ⟨id, id, id, id⟩

theorem MapKept.trans (h : MapKept s t) (k : MapKept t u) : MapKept s u :=
  ⟨k.floor ∘ h.floor, k.aligned ∘ h.aligned, k.distinct ∘ h.distinct, k.fits ∘ h.fits⟩

theorem MapKept.of_step (h : RegionsStep s t) (k : MapFits s → MapFits t) : MapKept s t :=
  ⟨h.floor, h.aligned, h.distinct, k⟩

/-- An operation that keeps the laws, taken along a list, keeps them. -/
theorem kept_foldl {α : Type} (f : State → α → State) :
    ∀ (l : List α) (s : State), (∀ a ∈ l, ∀ s, MapKept s (f s a)) → MapKept s (l.foldl f s)
  | [], _, _ => .refl
  | a :: l, s, h =>
    (h a (List.mem_cons_self ..) s).trans (kept_foldl f l (f s a) fun b hb => h b (List.mem_cons_of_mem _ hb))

/-- Two states whose descriptors differ at most in their last outcomes, and whose engines at most in the queue, the
next ID, the credits and the budget timer: what the laws of the map do not speak of. -/
structure SameStanding (s t : State) : Prop where
  desc : ∀ d, ∃ o, t.desc d = { s.desc d with outcome := o }
  eng  : ∃ q n c b, t.eng = { s.eng with queue := q, nextJobId := n, credits := c, budgetTimer := b }

theorem SameStanding.of_same (hm : t.map = s.map) (he : t.eng = s.eng) : SameStanding s t :=
  ⟨fun d => ⟨(s.desc d).outcome, by simp [State.desc, hm]⟩, _, _, _, _, he⟩

theorem SameStanding.refl : SameStanding s s := .of_same rfl rfl

theorem SameStanding.trans (h : SameStanding s t) (k : SameStanding t u) : SameStanding s u := by
  refine ⟨fun d => ?_, ?_⟩
  · obtain ⟨o, ho⟩ := h.desc d
    obtain ⟨p, hp⟩ := k.desc d
    exact ⟨p, by rw [hp, ho]⟩
  · obtain ⟨q, n, c, b, hq⟩ := h.eng
    obtain ⟨q', n', c', b', hq'⟩ := k.eng
    exact ⟨q', n', c', b', by rw [hq', hq]⟩

theorem SameStanding.kept (h : SameStanding s t) : MapKept s t := by
  refine .of_step (fun d => ?_) fun hs => ?_
  · obtain ⟨o, ho⟩ := h.desc d
    rw [ho]
    exact .refl d (s.desc d)
  · rw [mapFits_iff] at hs ⊢
    obtain ⟨q, n, c, b, hq⟩ := h.eng
    rw [hq]
    refine ⟨hs.1, fun d => ?_⟩
    obtain ⟨o, ho⟩ := h.desc d
    rw [ho]
    exact hs.2 d

/-- An operation that touches neither the map nor the engine keeps their laws. -/
theorem MapKept.of_same (hm : t.map = s.map) (he : t.eng = s.eng) : MapKept s t := (SameStanding.of_same hm he).kept

end Sys2Proof.Machine
end

section
/-! SUPPORT. The state after power-on reset: what each record holds, and that it obeys every law. -/

namespace Sys2Proof.Machine

/-! ## The records after power-on -/

section
variable (defsel : BitVec 3) (irst : Vector Bool 4)

@[simp] theorem powerOn_desc_ordIdx (d : Fin 64) : (State.powerOn defsel irst).desc (ordIdx d) = Desc.powerOn := by
  have h : ordIdx d ≠ floorIdx := ordIdx_ne_floor d
  show look (upd (Vector.replicate 65 Desc.powerOn) floorIdx (Desc.floorPowerOn defsel)) (ordIdx d) = _
  rw [look_upd_ne _ _ h, look_replicate]

@[simp] theorem powerOn_desc_floor : (State.powerOn defsel irst).desc floorIdx = Desc.floorPowerOn defsel :=
  look_upd_self (Vector.replicate 65 Desc.powerOn) floorIdx (Desc.floorPowerOn defsel)

@[simp] theorem powerOn_port (i : Fin 4) : (State.powerOn defsel irst).port i = IPort.powerOn (look irst i) := by
  simp [State.port, State.powerOn, look]

@[simp] theorem powerOn_slot (i : Fin 4) (k : Fin 8) : (State.powerOn defsel irst).slot i k = Slot.blank := by
  simp [State.slot, IPort.powerOn]

@[simp] theorem powerOn_tport (t : Fin 4) : (State.powerOn defsel irst).tport t = TPort.powerOn := by
  simp [State.tport, State.powerOn]

@[simp] theorem powerOn_mon (m : Fin 16) : (State.powerOn defsel irst).mon m = Monitor.cleared := by
  simp [State.mon, State.powerOn]

@[simp] theorem powerOn_eng : (State.powerOn defsel irst).eng = Engine.powerOn := rfl

@[simp] theorem powerOn_isPending (c : EventClass) : (State.powerOn defsel irst).isPending c = false := by
  simp [State.isPending, State.powerOn, EventCtl.powerOn]

/-- The floor after power-on: LIVE over the whole address space, at rest, its routes by the straps (R9). -/
theorem floorPowerOn_fixed : (Desc.floorPowerOn defsel).state = .live ∧ (Desc.floorPowerOn defsel).base = 0 ∧
    (Desc.floorPowerOn defsel).size = 28 ∧ (Desc.floorPowerOn defsel).switching = false ∧
    (Desc.floorPowerOn defsel).cur = 0 ∧ (Desc.floorPowerOn defsel).prev = 0 := by
  unfold Desc.floorPowerOn
  dsimp only
  split <;> exact ⟨rfl, rfl, rfl, rfl, rfl, rfl⟩

/-! ## The laws -/

theorem powerOn_mapFits : MapFits (State.powerOn defsel irst) := by
  refine mapFits_iff.2 ⟨⟨⟨rfl, rfl⟩, ⟨nofun, rfl⟩, Nat.zero_le 1, nofun, nofun⟩, fun d => ?_⟩
  have hn : ¬(State.powerOn defsel irst).eng.copies d := by rintro ⟨h, _⟩; cases h
  rcases idx_cases d with rfl | ⟨e, rfl⟩
  · obtain ⟨hlive, _, _, hsw, hcur, hprev⟩ := floorPowerOn_fixed defsel
    rw [powerOn_desc_floor]
    refine ⟨⟨fun _ _ => hcur, fun h => ?_, fun h => absurd hprev h⟩, ⟨fun h => ?_, fun h => absurd h hn⟩, fun h => ?_⟩
    · rw [hsw] at h; cases h
    · rw [hlive] at h; cases h
    · rw [hlive] at h; cases h
  · rw [powerOn_desc_ordIdx]
    exact ⟨⟨fun _ _ => rfl, nofun, fun h => absurd rfl h⟩, ⟨nofun, fun h => absurd h hn⟩, nofun⟩

theorem blank_fits : Slot.blank.fits := ⟨List.nodup_nil, rfl⟩

/-- A port after power-on is RESETTING exactly while its IRST_N is asserted, with nothing in it (R82). -/
theorem portPowerOn_fits (b : Bool) : (IPort.powerOn b).listsFit ∧ (IPort.powerOn b).stateFits := by
  have hslot (k : Fin 8) : look (IPort.powerOn b).slots k = Slot.blank := by simp [IPort.powerOn]
  have hqueue (t : Fin 4) : look (IPort.powerOn b).legQueues t = [] := by simp [IPort.powerOn]
  refine ⟨⟨fun t => ?_, ⟨List.nodup_nil, ?_, fun k => ?_⟩, List.nodup_nil, fun k => ?_⟩, ?_, fun _ => ⟨rfl, fun k => ?_⟩⟩
  · rw [hqueue]
    refine ⟨List.nodup_nil, fun ref => ⟨nofun, fun ⟨h, _⟩ => ?_⟩⟩
    rw [hslot] at h; cases h
  · exact ⟨nofun, nofun⟩
  · rw [hslot]; exact ⟨nofun, fun ⟨h, _⟩ => nomatch h⟩
  · rw [hslot]; exact ⟨nofun, fun ⟨h, _⟩ => nomatch h⟩
  · simp only [hslot]
    cases b
    · exact ⟨nofun, fun h => by rcases h with h | ⟨_, h⟩ <;> cases h⟩
    · exact ⟨fun _ => .inl rfl, fun _ => rfl⟩
  · rw [hslot]; exact .inl rfl

theorem powerOn_portsFit : PortsFit (State.powerOn defsel irst) := fun i => by
  rw [powerOn_port]
  exact ⟨(portPowerOn_fits _).1, (portPowerOn_fits _).2, fun k => by rw [powerOn_slot]; exact blank_fits⟩

theorem powerOn_ownersFit : OwnersFit (State.powerOn defsel irst) := by
  have howners (t : Fin 4) : ((State.powerOn defsel irst).tport t).owners = [] := by rw [powerOn_tport]; rfl
  refine ⟨fun t i k r => ?_, ?_⟩
  · rw [howners, powerOn_slot]; rfl
  · simp only [howners]; rfl

/-- No slot is counted after power-on (R82, R6). -/
theorem powerOn_countsMatch : CountsMatchSlots (State.powerOn defsel irst) := by
  have hslots : ∀ sl ∈ (State.powerOn defsel irst).allSlots, sl = Slot.blank := by
    simp [State.allSlots]
  have hzero (p : Slot → Bool) (hp : p Slot.blank = false) : (State.powerOn defsel irst).allSlots.countP p = 0 :=
    List.countP_eq_zero.2 fun sl h => by rw [hslots sl h, hp]; decide
  intro d
  rw [hzero _ rfl, hzero _ rfl]
  rcases idx_cases d with rfl | ⟨e, rfl⟩
  · rw [powerOn_desc_floor]
    exact ⟨(floorPowerOn_fixed defsel).2.2.2.2.1, (floorPowerOn_fixed defsel).2.2.2.2.2⟩
  · rw [powerOn_desc_ordIdx]; exact ⟨rfl, rfl⟩

theorem powerOn_targetPortsFit : TargetPortsFit (State.powerOn defsel irst) := fun t => by
  rw [powerOn_tport]
  exact ⟨by decide, nofun, fun _ => ⟨rfl, rfl⟩, nofun, nofun, nofun⟩

theorem powerOn_floorFixed : FloorFixed (State.powerOn defsel irst) := by
  obtain ⟨hlive, hbase, hsize, _⟩ := floorPowerOn_fixed defsel
  unfold FloorFixed
  rw [powerOn_desc_floor]
  exact ⟨hlive, hbase, hsize⟩

theorem powerOn_monitorsFit : MonitorsFit (State.powerOn defsel irst) := fun m => by
  rw [powerOn_mon]
  exact ⟨⟨by decide, by decide, nofun, nofun, rfl, rfl, rfl⟩, fun h => absurd rfl h⟩

theorem powerOn_regions : RegionsAligned (State.powerOn defsel irst) ∧ RegionsDistinct (State.powerOn defsel irst) := by
  refine ⟨fun d => ?_, fun d e _ hd => ?_⟩
  · rw [powerOn_desc_ordIdx]; exact ⟨Nat.le_refl 12, by decide, nofun⟩
  · rw [powerOn_desc_ordIdx] at hd; cases hd

theorem powerOn_busyIsRestoring : BusyIsRestoring (State.powerOn defsel irst) := by
  have hnone (t : Fin 4) : ¬((State.powerOn defsel irst).tport t).restoring.isSome = true := by
    rw [powerOn_tport]; nofun
  exact ⟨⟨nofun, fun ⟨t, h⟩ => absurd h (hnone t)⟩, fun t _ h => absurd h (hnone t)⟩

theorem powerOn_lawful : Lawful (State.powerOn defsel irst) := by
  obtain ⟨hengine, hrest, hwait⟩ := powerOn_mapFits defsel irst
  exact ⟨⟨powerOn_portsFit defsel irst, powerOn_ownersFit defsel irst, powerOn_countsMatch defsel irst,
      powerOn_targetPortsFit defsel irst, hengine, hrest, hwait, powerOn_floorFixed defsel irst⟩,
    (powerOn_regions defsel irst).1, (powerOn_regions defsel irst).2, ⟨Nat.zero_le 8, List.nodup_nil, List.nodup_nil⟩,
    Nat.zero_le _, powerOn_busyIsRestoring defsel irst, powerOn_monitorsFit defsel irst⟩

end

/-- The laws do not speak of the draws of free choices nor of the queue of waiting commands. -/
theorem lawful_of_powerOn {t : State} {defsel : BitVec 3} {irst : Vector Bool 4} {n : Nat} {q : List Instr}
    (h : t = { State.powerOn defsel irst with freeDraws := n, pending := q }) : Lawful t := by
  subst h
  exact powerOn_lawful defsel irst

/-- Settles O7. -/
theorem resetIsLawful : Obligations.ResetIsLawful := by
  refine ⟨powerOn_lawful 0 (Vector.replicate 4 false), fun defsel s => ⟨_, rfl, ?_⟩⟩
  exact lawful_of_powerOn rfl

/-- Settles O4. -/
theorem powerOnResetSetsTheMap : Obligations.PowerOnResetSetsTheMap := by
  refine fun defsel s => ⟨_, rfl, fun d => ?_, fun h => ?_, fun h => ?_, fun c => ?_⟩
  · exact powerOn_desc_ordIdx defsel (vmap IPort.irst s.ports) d
  · refine (powerOn_desc_floor defsel (vmap IPort.irst s.ports)).trans ?_
    simp only [Desc.floorPowerOn, dif_pos h]; rfl
  · refine (powerOn_desc_floor defsel (vmap IPort.irst s.ports)).trans ?_
    simp only [Desc.floorPowerOn, dif_neg (Nat.not_lt.2 h)]; rfl
  · exact powerOn_isPending defsel (vmap IPort.irst s.ports) c

end Sys2Proof.Machine
end

section
/-! SUPPORT. The operations of the engine and of the map keep the laws of the map. -/

namespace Sys2Proof.Machine

variable {s t u : State}

/-! ## The engine's record -/

/-- No copy request is outstanding without a line in flight, but in ABORTING (R108). -/
theorem Engine.fits.outstanding_zero {g : Engine} (h : g.fits) (ha : g.state ≠ .aborting) (hl : g.lineInFlight = none) :
    g.outstanding = 0 := by
  obtain ⟨_, ⟨_, hstep⟩, hle, _, hone⟩ := h
  by_contra h0
  have h1 := hone (by omega)
  rw [hl] at hstep
  rcases h1 with h | h | h
  · exact ha h
  · simp [h] at hstep
  · simp [h] at hstep

/-- No line is in flight but in COPYING (R121). -/
theorem Engine.fits.no_line {g : Engine} (h : g.fits) (hc : g.state ≠ .copying) : g.lineInFlight = none := by
  by_contra hl
  obtain ⟨l, hl⟩ := Option.ne_none_iff_exists'.1 hl
  exact hc (h.2.1.1 l hl).1

/-- A record without a line in flight and without a request fits when its state fits and is not ABORTING. -/
theorem Engine.fits_of_quiet {g : Engine} (hs : g.stateFits) (hl : g.lineInFlight = none) (hst : g.lineStep = none)
    (ho : g.outstanding = 0) (ha : g.state ≠ .aborting) : g.fits :=
  ⟨hs, ⟨fun l h => by simp [hl] at h, by rw [hl, hst]; rfl⟩, by omega, fun h => absurd h ha, fun h => by omega⟩

theorem Engine.fits.step_none {g : Engine} (h : g.fits) (hl : g.lineInFlight = none) : g.lineStep = none := by
  have := h.2.1.2
  rw [hl] at this
  simpa using this.symm

theorem afterJob_started (g : Engine) : g.afterJob.started = false := by
  unfold Engine.afterJob; dsimp only; split
  · rfl
  · split <;> rfl

theorem not_copies_afterJob (g : Engine) (d : DescIdx) : ¬g.afterJob.copies d := by
  rintro ⟨h, _⟩
  rw [afterJob_started] at h; cases h

theorem afterJob_fits {g : Engine} (h : g.fits) : g.afterJob.fits := by
  unfold Engine.afterJob
  dsimp only
  split
  · next ho =>
    have h1 : g.outstanding = 1 := by have := h.2.2.1; omega
    exact ⟨⟨rfl, rfl⟩, ⟨nofun, rfl⟩, h.2.2.1, fun _ => h1, fun _ => .inl rfl⟩
  · next ho =>
    have h0 : g.outstanding = 0 := by simpa using ho
    split
    · exact Engine.fits_of_quiet nofun rfl rfl h0 nofun
    · exact Engine.fits_of_quiet ⟨rfl, rfl⟩ rfl rfl h0 nofun

/-! ## Counts and switches of one descriptor -/

/-- The counts of a descriptor rest the same whatever its generation, routes and last outcome, and as it goes between
LIVE and MIGRATING. -/
theorem Desc.countsRest.of_inUse {d : DescIdx} {x y : Desc} (h : x.countsRest d) (hc : y.cur = x.cur)
    (hp : y.prev = x.prev) (hs : y.switching = x.switching) (hu : x.inUse = true) (hv : y.inUse = true) :
    y.countsRest d := by
  obtain ⟨_, hsw, hprev⟩ := h
  have hx : x.state ≠ .draining := by intro h; simp [Desc.inUse, h] at hu
  refine ⟨fun _ h => ?_, fun h => ?_, fun h => ?_⟩
  · rcases h with h | h <;> simp [Desc.inUse, h] at hv
  · obtain ⟨_, h1, h2⟩ := hsw (hs ▸ h)
    exact ⟨hv, hc ▸ h1, hp ▸ h2⟩
  · rcases hprev (hp ▸ h) with h | h
    · exact .inl (hs ▸ h)
    · exact absurd h hx

/-- A descriptor out of use is not switching (R11). -/
theorem Desc.countsRest.not_switching {d : DescIdx} {x : Desc} (h : x.countsRest d) (hu : x.inUse = false) :
    x.switching = false := by
  by_contra hs
  rw [(h.2.1 (by simpa using hs)).1] at hu
  cases hu

/-- Only a switching or DRAINING descriptor has a previous count (R49, R53). -/
theorem Desc.countsRest.prev_zero {d : DescIdx} {x : Desc} (h : x.countsRest d) (hs : x.switching = false)
    (hd : x.state ≠ .draining) : x.prev = 0 := by
  by_contra hp
  rcases h.2.2 hp with h | h
  · rw [hs] at h; cases h
  · exact hd h

/-- Counts rest at zero, out of a switch, in every state. -/
theorem Desc.countsRest_of_zero {d : DescIdx} {x : Desc} (hc : x.cur = 0) (hp : x.prev = 0) (hs : x.switching = false) :
    x.countsRest d :=
  ⟨fun _ _ => hc, fun h => by simp [hs] at h, fun h => absurd hp h⟩

/-! ## The end of the active job -/

theorem regions_endActive (e : Ending) : RegionsStep s (endActive e s) := fun d => by
  obtain ⟨o, st, hd, hst⟩ := endActive_desc_eq s e d
  rw [hd]
  exact Desc.regionStep_settled d rfl rfl hst

/-- The end of the active job leaves the map and the engine right, if only the engine's record and every descriptor's
counts were, and none was MIGRATING that the engine does not copy. -/
theorem fits_endActive (e : Ending) (ha : s.eng.active ≠ none) (hg : s.eng.fits)
    (hd : ∀ d, (s.desc d).countsRest d ∧ ((s.desc d).state = .migrating → s.eng.copies d)) :
    MapFits (endActive e s) := by
  obtain ⟨j, hj⟩ := Option.ne_none_iff_exists'.1 ha
  rw [mapFits_iff, endActive_eng, if_neg ha]
  refine ⟨afterJob_fits hg, fun d => ?_⟩
  obtain ⟨hrest, hcop⟩ := hd d
  have hrest' : ((endActive e s).desc d).countsRest d := by
    obtain ⟨o, st, hd, hst⟩ := endActive_desc_eq s e d
    rw [hd]
    rcases hst with rfl | ⟨hm, rfl⟩
    · exact hrest
    · exact hrest.of_inUse rfl rfl rfl (by simp [Desc.inUse, hm]) rfl
  have hlive : ((endActive e s).desc d).state ≠ .migrating := by
    rw [endActive_desc s e hj]
    split
    · dsimp only
      split
      · nofun
      · next hn => exact fun hm => hn ⟨(hcop hm).1, hm⟩
    · next hne =>
      intro hm
      obtain ⟨_, i, hi, rfl⟩ := hcop hm
      rw [hj] at hi
      exact hne (by rw [Option.some.inj hi])
  exact ⟨hrest', ⟨fun h => absurd h hlive, fun h => absurd h (not_copies_afterJob _ d)⟩, fun h => absurd h hlive⟩

theorem kept_endActive (e : Ending) : MapKept s (endActive e s) := by
  by_cases ha : s.eng.active = none
  · rw [endActive_none s e ha]; exact .refl
  · refine .of_step (regions_endActive e) fun hs => ?_
    rw [mapFits_iff] at hs
    exact fits_endActive e ha hs.1 fun d => ⟨(hs.2 d).1, (hs.2 d).2.1.1⟩

theorem kept_takeStartChecks : MapKept s (takeStartChecks s) := by
  rcases takeStartChecks_cases s with h | ⟨r, h⟩ <;> rw [h]
  · exact .refl
  · exact kept_endActive _

/-! ## Steps of the engine's record alone -/

/-- A change of the engine's record keeps the laws when the record still fits, copies the same descriptor, and neither
enters nor leaves CUTOVER while it copies one. -/
theorem kept_eng {f : Engine → Engine} (h : s.eng.fits → (f s.eng).fits ∧
    ∀ d, ((f s.eng).copies d ↔ s.eng.copies d) ∧ (s.eng.copies d → ((f s.eng).state = .cutover ↔ s.eng.state = .cutover))) :
    MapKept s (s.modEng f) := by
  refine .of_step (fun d => .refl d _) fun hs => ?_
  rw [mapFits_iff] at hs ⊢
  obtain ⟨hg, hd⟩ := hs
  obtain ⟨hg', hcop⟩ := h hg
  refine ⟨hg', fun d => ?_⟩
  obtain ⟨hrest, hmig, hcut⟩ := hd d
  obtain ⟨hsame, hst⟩ := hcop d
  exact ⟨hrest, hmig.trans hsame.symm, fun hm => (hcut hm).trans (hst (hmig.1 hm)).symm⟩

/-- A change of the engine's record that leaves the active job, and whether it has started, keeps the laws when the
record still fits and CUTOVER is neither entered nor left. -/
theorem kept_eng_job {f : Engine → Engine} (ha : (f s.eng).active = s.eng.active) (hs : (f s.eng).started = s.eng.started)
    (h : s.eng.fits → (f s.eng).fits ∧ ((f s.eng).state = .cutover ↔ s.eng.state = .cutover)) :
    MapKept s (s.modEng f) :=
  kept_eng fun hg => ⟨(h hg).1, fun d => ⟨Engine.copies_congr ha hs d, fun _ => (h hg).2⟩⟩

/-- A change of the engine's record while no job has started and none does. -/
theorem kept_eng_unstarted {f : Engine → Engine} (hf : s.eng.fits → s.eng.started = false ∧ (f s.eng).started = false ∧
    (f s.eng).fits) : MapKept s (s.modEng f) := by
  refine kept_eng fun hg => ⟨(hf hg).2.2, fun d => ?_⟩
  obtain ⟨h0, h1, _⟩ := hf hg
  have hn : ¬s.eng.copies d := fun h => by rw [h.1] at h0; cases h0
  have hn' : ¬(f s.eng).copies d := fun h => by rw [h.1] at h1; cases h1
  exact ⟨⟨fun h => absurd h hn', fun h => absurd h hn⟩, fun h => absurd h hn⟩

/-- In a state with no job started the record says so (R108). -/
theorem Engine.fits.idle {g : Engine} (h : g.fits) (hs : g.state = .idle) : g.active = none ∧ g.started = false := by
  have := h.1; unfold Engine.stateFits at this; rwa [hs] at this

theorem Engine.fits.starting {g : Engine} (h : g.fits) (hs : g.state = .starting) :
    g.active.isSome = true ∧ g.started = false := by
  have := h.1; unfold Engine.stateFits at this; rwa [hs] at this

theorem Engine.fits.copying {g : Engine} (h : g.fits) (hs : g.state = .copying) :
    g.active.isSome = true ∧ g.started = true := by
  have := h.1; unfold Engine.stateFits at this; rwa [hs] at this

theorem Engine.fits.aborting {g : Engine} (h : g.fits) (hs : g.state = .aborting) :
    g.active = none ∧ g.started = false ∧ g.outstanding = 1 ∧ g.lineInFlight = none ∧ g.lineStep = none := by
  have h1 := h.1
  unfold Engine.stateFits at h1
  rw [hs] at h1
  have hl := h.no_line (by rw [hs]; nofun)
  exact ⟨h1.1, h1.2, h.2.2.2.1 hs, hl, h.step_none hl⟩

/-- A line in flight is that of a COPYING engine with its job (R108, R121). -/
theorem Engine.fits.line {g : Engine} (h : g.fits) {l : Nat} (hl : g.lineInFlight = some l) :
    g.state = .copying ∧ g.active.isSome = true ∧ g.started = true := by
  have hc := (h.2.1.1 l hl).1
  exact ⟨hc, h.copying hc⟩

theorem activated_fits {g : Engine} {j : Job} {rest : List Job} (h : g.fits) (hs : g.state = .idle) :
    (g.activated j rest).fits := by
  have hl := h.no_line (by rw [hs]; nofun)
  exact Engine.fits_of_quiet ⟨rfl, rfl⟩ hl (h.step_none hl) (h.outstanding_zero (by rw [hs]; nofun) hl) nofun

theorem kept_activated {j : Job} {rest : List Job} (hs : s.eng.state = .idle) :
    MapKept s (s.modEng fun g => g.activated j rest) :=
  kept_eng_unstarted fun hg => ⟨(hg.idle hs).2, rfl, activated_fits hg hs⟩

/-! ## The start of the active job -/

/-- The start of the active job leaves the map and the engine right (R110). -/
theorem kept_begun {j : Job} (hj : s.eng.active = some j) (hs : s.eng.state = .starting)
    (hv : startVerdict (s.desc (ordIdx j.desc)) j = .pass) :
    MapKept s ((s.modDesc (ordIdx j.desc) fun x => { x with state := .migrating }).modEng Engine.begun) := by
  obtain ⟨hlive, hsw, _⟩ := startVerdict_pass hv
  refine .of_step ?_ fun hf => ?_
  · refine (regionsStep_modDesc (ordIdx j.desc) (fun x => { x with state := .migrating }) ?_).of_map rfl
    exact ⟨fun h => absurd h (ordIdx_ne_floor _), .inl ⟨rfl, rfl, fun _ => by simp [Desc.holdsRegion, Desc.inUse, hlive]⟩⟩
  · rw [mapFits_iff] at hf ⊢
    obtain ⟨hg, hd⟩ := hf
    have hl := hg.no_line (by rw [hs]; nofun)
    refine ⟨Engine.fits_of_quiet ⟨by simp [Engine.begun, hj], rfl⟩ rfl rfl
      (hg.outstanding_zero (by rw [hs]; nofun) hl) nofun, fun d => ?_⟩
    have hcop : s.eng.begun.copies d ↔ ordIdx j.desc = d := by simp [Engine.copies, Engine.begun, hj]
    obtain ⟨hrest, hmig, -⟩ := hd d
    simp only [State.modEng_eng, State.modDesc_eng, State.modEng_desc, State.modDesc_desc]
    split
    · next h =>
      subst h
      exact ⟨hrest.of_inUse rfl rfl rfl (by simp [Desc.inUse, hlive]) rfl, by simp [hcop],
        fun _ => by simp [hsw, Engine.begun]⟩
    · next h =>
      have hn : (s.desc d).state ≠ .migrating := fun hm => by
        have := (hmig.1 hm).1
        rw [(hg.starting hs).2] at this; cases this
      exact ⟨hrest, by simp [hcop, hn, Ne.symm h], fun hm => absurd hm hn⟩

theorem kept_beginJob : MapKept s (beginJob s) := by
  rcases beginJob_cases s with h | ⟨r, h⟩ | ⟨j, hj, hs, hv, h⟩ <;> rw [h]
  · exact .refl
  · exact kept_endActive _
  · exact kept_begun hj hs hv

theorem kept_recheckStart (d : DescIdx) : MapKept s (recheckStart d s) := by
  rcases recheckStart_cases s d with h | ⟨_, h⟩ <;> rw [h]
  · exact .refl
  · exact kept_beginJob

theorem kept_activateJob : MapKept s (activateJob s) := by
  rcases activateJob_cases s with h | ⟨j, rest, _, hs, _, h⟩ <;> rw [h]
  · exact .refl
  · exact (kept_activated hs).trans kept_takeStartChecks

theorem kept_activateAtOnce : MapKept s (activateAtOnce s) := by
  rcases activateAtOnce_cases s with h | ⟨j, rest, _, hs, _, h⟩ <;> rw [h]
  · exact .refl
  · exact (kept_activated hs).trans kept_beginJob

/-! ## Lines -/

/-- A line or a retry begins only in COPYING (R123, R134). -/
theorem lineDue_copying (h : s.lineDue = true) : s.eng.state = .copying := by
  simp only [State.lineDue, Bool.or_eq_true] at h
  rcases h with h | h
  · unfold State.lineReady at h
    split at h
    · cases h
    · simp only [Bool.and_eq_true, decide_eq_true_eq] at h; exact h.1.1.1.1.1
  · simp only [State.retryReady, Bool.and_eq_true, decide_eq_true_eq] at h; exact h.1.1.1

theorem kept_beginLine : MapKept s (beginLine s) := by
  unfold beginLine
  split
  · next h =>
    have hc := lineDue_copying h
    refine kept_eng_job rfl rfl fun hg => ⟨⟨?_, ⟨?_, rfl⟩, hg.2.2.1, ?_, fun _ => .inr (.inl rfl)⟩, .rfl⟩
    · have := hg.1; unfold Engine.stateFits at this ⊢; exact this
    · rintro l ⟨⟩; exact ⟨hc, rfl⟩
    · intro ha; rw [show s.eng.state = .aborting from ha] at hc; cases hc
  · exact .refl

end Sys2Proof.Machine
end

section
/-! SUPPORT. Switches, drains, cutover and the results of copy requests keep the laws of the map. -/

namespace Sys2Proof.Machine

variable {s t u : State}

/-! ## The start of a switch -/

theorem regions_startSwitch (d : DescIdx) : RegionsStep s (startSwitch d s) := by
  unfold startSwitch
  dsimp only
  split
  · have h := regionsStep_modDesc (s := s) d
      (fun x => { x with gen := x.gen + 1, state := if x.state = .migrating then .live else x.state })
      (Desc.regionStep_settled d rfl rfl (settled_ite id))
    split
    · exact h.trans (regions_endActive _)
    · exact h
  · exact regionsStep_modDesc d _ (Desc.regionStep_settled d rfl rfl (.inl rfl))

/-- A switch may start on `d` (R18, R139): it is LIVE, or MIGRATING with the engine in CUTOVER; it is not switching; and
every other descriptor stands right. -/
structure SwitchReady (d : DescIdx) (s : State) : Prop where
  engine  : s.eng.fits
  rests   : ∀ e, (s.desc e).countsRest e
  copied  : ∀ e, (s.desc e).state = .migrating ↔ s.eng.copies e
  others  : ∀ e, e ≠ d → (s.desc e).state = .migrating → ((s.desc e).switching = true ↔ s.eng.state = .cutover)
  inUse   : (s.desc d).inUse = true
  still   : (s.desc d).switching = false
  cutover : (s.desc d).state = .migrating → s.eng.state = .cutover

theorem SwitchReady.prev_zero {d : DescIdx} (h : SwitchReady d s) : (s.desc d).prev = 0 :=
  (h.rests d).prev_zero h.still (by intro hd; have := h.inUse; simp [Desc.inUse, hd] at this)

theorem fits_startSwitch {d : DescIdx} (h : SwitchReady d s) : MapFits (startSwitch d s) := by
  unfold startSwitch
  dsimp only
  split
  · next hc =>
    have hlive : ∀ e, ((s.modDesc d fun x => { x with gen := x.gen + 1, state :=
        if x.state = .migrating then .live else x.state }).desc e).countsRest e := fun e => by
      rw [State.modDesc_desc]
      split
      · next he => subst he; exact Desc.countsRest_of_zero hc h.prev_zero h.still
      · exact h.rests e
    split
    · next hm =>
      obtain ⟨_, j, hj, _⟩ := (h.copied d).1 hm
      refine fits_endActive _ (by simp [hj]) h.engine fun e => ⟨hlive e, ?_⟩
      rw [State.modDesc_desc]
      split
      · simp
      · exact (h.copied e).1
    · next hm =>
      refine mapFits_iff.2 ⟨h.engine, fun e => ⟨hlive e, ?_⟩⟩
      rw [State.modDesc_desc]
      split
      · next he => subst he; simpa [hm] using fun hk => hm ((h.copied e).2 hk)
      · next he => exact ⟨h.copied e, h.others e he⟩
  · next hc =>
    refine mapFits_iff.2 ⟨h.engine, fun e => ?_⟩
    rw [State.modDesc_desc]
    split
    · next he =>
      subst he
      refine ⟨⟨fun _ hout => ?_, fun _ => ⟨h.inUse, rfl, hc⟩, fun _ => .inl rfl⟩, h.copied e, fun hm => ?_⟩
      · have := h.inUse
        rcases hout with ho | ho <;> simp [Desc.inUse, show (s.desc e).state = _ from ho] at this
      · simpa using h.cutover hm
    · next he => exact ⟨h.rests e, h.copied e, h.others e he⟩

/-! ## Cutover -/

/-- Cutover changes the routes of a record alone (R139). -/
theorem cutover_routes (x : Desc) (j : Job) : ∃ r w m, x.cutover j = { x with read := r, write := w, mirror := m } := by
  unfold Desc.cutover; split <;> exact ⟨_, _, _, rfl⟩

/-- The state as the engine enters CUTOVER, its routes installed and its switch not yet begun (R139). -/
def cuttingOver (j : Job) (s : State) : State :=
  (s.modEng fun g => { g with state := .cutover }).modDesc (ordIdx j.desc) fun x => x.cutover j

theorem cuttingOver_desc (j : Job) (d : DescIdx) :
    ∃ r w m, (cuttingOver j s).desc d = { s.desc d with read := r, write := w, mirror := m } := by
  rw [cuttingOver, State.modDesc_desc]
  split
  · next he => subst he; exact cutover_routes _ j
  · exact ⟨_, _, _, rfl⟩

theorem enterCutover_eq {j : Job} (hj : s.eng.active = some j) :
    enterCutover s = startSwitch (ordIdx j.desc) (cuttingOver j s) := by
  unfold enterCutover; rw [hj]; rfl

theorem regions_enterCutover : RegionsStep s (enterCutover s) := by
  rcases hj : s.eng.active with _ | j
  · unfold enterCutover; rw [hj]; exact .refl
  · rw [enterCutover_eq hj]
    refine RegionsStep.trans (fun d => ?_) (regions_startSwitch _)
    obtain ⟨r, w, m, hd⟩ := cuttingOver_desc (s := s) j d
    rw [hd]; exact Desc.regionStep_settled d rfl rfl (.inl rfl)

/-- CUTOVER is entered from COPYING, with no line in flight, on a descriptor that is not switching (R139). -/
theorem switchReady_cuttingOver {j : Job} (hs : MapFits s) (hj : s.eng.active = some j) (hc : s.eng.state = .copying)
    (hl : s.eng.lineInFlight = none) : SwitchReady (ordIdx j.desc) (cuttingOver j s) := by
  obtain ⟨hg, hd⟩ := mapFits_iff.1 hs
  have hstart := (hg.copying hc).2
  have hcop : s.eng.copies (ordIdx j.desc) := ⟨hstart, j, hj, rfl⟩
  have hmig := (hd (ordIdx j.desc)).2.1.2 hcop
  have hstill : (s.desc (ordIdx j.desc)).switching = false := by
    have := (hd (ordIdx j.desc)).2.2 hmig
    simpa [hc] using this
  have hroutes := cuttingOver_desc (s := s) j
  obtain ⟨r, w, m, hx⟩ := hroutes (ordIdx j.desc)
  refine ⟨?_, fun e => ?_, fun e => ?_, fun e he hm => ?_, ?_, ?_, fun _ => rfl⟩
  · exact Engine.fits_of_quiet ⟨by simp [cuttingOver, hj], hstart⟩ hl (hg.step_none hl)
      (hg.outstanding_zero (by rw [hc]; nofun) hl) nofun
  · obtain ⟨r, w, m, he⟩ := hroutes e
    rw [he]; exact (hd e).1
  · obtain ⟨r, w, m, he⟩ := hroutes e
    rw [he]; exact (hd e).2.1
  · obtain ⟨r, w, m, he'⟩ := hroutes e
    rw [he'] at hm
    exact absurd (Engine.copies_unique ((hd e).2.1.1 hm) hcop) he
  · rw [hx]; simp [Desc.inUse, hmig]
  · rw [hx]; exact hstill

theorem fits_enterCutover (hs : MapFits s) (hc : s.eng.state = .copying) (hl : s.eng.lineInFlight = none) :
    MapFits (enterCutover s) := by
  rcases hj : s.eng.active with _ | j
  · unfold enterCutover; rw [hj]; exact hs
  · rw [enterCutover_eq hj]
    exact fits_startSwitch (switchReady_cuttingOver hs hj hc hl)

/-! ## The results of copy requests -/

/-- A release of held slots keeps the laws of the map. -/
theorem kept_release (sel : Hold → Bool) : MapKept s (release sel s) := .of_same rfl rfl

theorem kept_raise (c : EventClass) : MapKept s (raise c s) := .of_same rfl rfl

/-- The line in flight is over: the record fits without it, in COPYING or HALTED (R127). -/
theorem Engine.fits.line_over {g h : Engine} (hg : g.fits) {l : Nat} (hl : g.lineInFlight = some l)
    (ho : g.outstanding = 0) (hact : h.active = g.active) (hst : h.started = g.started)
    (hs : h.state = .copying ∨ h.state = .halted) (hline : h.lineInFlight = none) (hstep : h.lineStep = none)
    (hout : h.outstanding = g.outstanding) : h.fits := by
  obtain ⟨_, ha, hstart⟩ := hg.line hl
  refine Engine.fits_of_quiet ?_ hline hstep (hout.trans ho) (by rcases hs with k | k <;> rw [k] <;> nofun)
  unfold Engine.stateFits
  rcases hs with k | k <;> rw [k]
  · exact ⟨hact ▸ ha, hst.trans hstart⟩
  · exact fun _ => hact ▸ ha

/-- The engine with the line in flight complete (R127). -/
def Engine.lineDone (g : Engine) : Engine :=
  { g with cursor := g.cursor + 1, lineInFlight := none, lineStep := none, lineData := none, retryCount := 0 }

theorem kept_lineDone {l : Nat} (hl : s.eng.lineInFlight = some l) (ho : s.eng.outstanding = 0) :
    MapKept s (s.modEng Engine.lineDone) :=
  kept_eng_job rfl rfl fun hg => ⟨hg.line_over hl ho rfl rfl (.inl (hg.line hl).1) rfl rfl rfl, .rfl⟩

/-- The ways the completion of a line ends: the engine goes on, is halted, or enters CUTOVER (R127). -/
theorem completeLine_cases :
    completeLine s = s ∨ ∃ j l u, s.eng.active = some j ∧ s.eng.lineInFlight = some l ∧
      u = release (Hold.onLine (ordIdx j.desc) l) (s.modEng Engine.lineDone) ∧
      (completeLine s = u ∨ completeLine s = u.modEng (fun g => { g with state := .halted, haltPending := false }) ∨
        completeLine s = enterCutover u) := by
  unfold completeLine
  split
  · next j l hj hl =>
    refine .inr ⟨j, l, _, hj, hl, rfl, ?_⟩
    dsimp only
    split
    · exact .inr (.inl rfl)
    · split
      · exact .inr (.inr rfl)
      · exact .inl rfl
  · exact .inl rfl
  · exact .inl rfl

theorem regions_completeLine : RegionsStep s (completeLine s) := by
  rcases completeLine_cases (s := s) with h | ⟨j, l, u, _, _, rfl, h | h | h⟩ <;> rw [h]
  · exact .refl
  · exact .refl
  · exact .refl
  · exact RegionsStep.trans (t := release (Hold.onLine (ordIdx j.desc) l) (s.modEng Engine.lineDone)) .refl
      regions_enterCutover

theorem fits_completeLine (hs : MapFits s) (ho : s.eng.outstanding = 0) : MapFits (completeLine s) := by
  rcases completeLine_cases (s := s) with h | ⟨j, l, u, hj, hl, rfl, hu⟩
  · rw [h]; exact hs
  · have hc := ((mapFits_iff.1 hs).1.line hl).1
    have hdone := (kept_lineDone hl ho).fits hs
    have hu' := (kept_release (Hold.onLine (ordIdx j.desc) l)).fits hdone
    rcases hu with h | h | h <;> rw [h]
    · exact hu'
    · refine (kept_eng_job rfl rfl fun hg => ⟨?_, by simp [Engine.lineDone, hc]⟩).fits hu'
      exact Engine.fits_of_quiet (fun _ => by simp [Engine.lineDone, hj]) rfl rfl ho nofun
    · exact fits_enterCutover hu' hc rfl

theorem regions_copyError : RegionsStep s (copyError s) := by
  unfold copyError
  split
  · exact .refl
  · split
    · exact .refl
    · exact regions_endActive _

theorem fits_copyError (hs : MapFits s) (ho : s.eng.outstanding = 0) : MapFits (copyError s) := by
  unfold copyError
  split
  · exact hs
  · next l hl =>
    split
    · refine (kept_eng_job rfl rfl fun hg => ⟨⟨hg.1, ⟨hg.2.1.1, by rw [hl]; rfl⟩, hg.2.2.1, hg.2.2.2.1, ?_⟩, .rfl⟩).fits hs
      intro h1; rw [show s.eng.outstanding = 1 from h1] at ho; cases ho
    · exact (kept_endActive _).fits hs

/-- The record in ABORTING takes a result (R112). -/
theorem abortResult_fits {g : Engine} (h : g.fits) (ha : g.state = .aborting) :
    g.abortResult.fits ∧ g.abortResult.started = false := by
  obtain ⟨hact, hstart, hout, hline, hstep⟩ := h.aborting ha
  unfold Engine.abortResult
  dsimp only
  split
  · next hne => rw [hout] at hne; exact absurd rfl hne
  · split
    · exact ⟨Engine.fits_of_quiet (fun h => by simp [hstart] at h) hline hstep (by simp [hout]) nofun, hstart⟩
    · exact ⟨Engine.fits_of_quiet ⟨hact, hstart⟩ hline hstep (by simp [hout]) nofun, hstart⟩

theorem kept_abortResult (ha : s.eng.state = .aborting) : MapKept s (s.modEng Engine.abortResult) :=
  kept_eng_unstarted fun hg => ⟨(hg.aborting ha).2.1, (abortResult_fits hg ha).2, (abortResult_fits hg ha).1⟩

/-- A copy request has come back (R125, R126). -/
def Engine.answered (g : Engine) : Engine := { g with outstanding := g.outstanding - 1 }

theorem kept_answered (ha : s.eng.state ≠ .aborting) : MapKept s (s.modEng Engine.answered) :=
  kept_eng_job rfl rfl fun hg => by
    have hle := hg.2.2.1
    refine ⟨⟨hg.1, hg.2.1, by simp only [Engine.answered]; omega, fun h => absurd h ha, fun h => ?_⟩, .rfl⟩
    simp only [Engine.answered] at h; omega

theorem regions_copyResult (code : TargetCode) (data : List Byte) : RegionsStep s (copyResult code data s) := by
  unfold copyResult
  split
  · exact .refl
  · have hans : RegionsStep s (s.modEng Engine.answered) := .refl
    dsimp only
    split
    · exact .refl
    · exact hans.trans regions_completeLine
    · exact hans.trans regions_copyError
    · exact hans.trans regions_copyError
    · exact .refl
    · exact .refl

theorem kept_copyResult (code : TargetCode) (data : List Byte) : MapKept s (copyResult code data s) := by
  refine .of_step (regions_copyResult code data) fun hs => ?_
  unfold copyResult
  split
  · next ha => exact (kept_abortResult ha).fits hs
  · next ha =>
    have hans := (kept_answered ha).fits hs
    have hzero : (s.modEng Engine.answered).eng.outstanding = 0 := by
      have := (mapFits_iff.1 hs).1.2.2.1
      simp only [State.modEng_eng, Engine.answered]; omega
    dsimp only
    split
    · next hstep =>
      refine (kept_eng_job rfl rfl fun hg => ⟨⟨hg.1, ⟨hg.2.1.1, ?_⟩, hg.2.2.1, hg.2.2.2.1, fun _ => .inr (.inr rfl)⟩,
        .rfl⟩).fits hans
      exact hg.2.1.2.trans (by simp [hstep])
    · exact fits_completeLine hans hzero
    · exact fits_copyError hans hzero
    · exact fits_copyError hans hzero
    · exact hans
    · exact hans

theorem kept_mirrorReport (c : Counted) (l : Leg) : MapKept s (mirrorReport c l s) := by
  unfold mirrorReport
  split
  · exact .refl
  · split
    · exact kept_endActive _
    · exact .refl

/-! ## The completion of a switch, drains and uncounts -/

theorem regions_switchDone (d : DescIdx) : RegionsStep s (switchDone d s) := by
  have h : RegionsStep s (raise .switched (s.modDesc d fun x =>
      { x with switching := false, state := if x.state = .migrating then .live else x.state })) :=
    (regionsStep_modDesc d (fun x =>
      { x with switching := false, state := if x.state = .migrating then .live else x.state })
      (Desc.regionStep_settled d rfl rfl (settled_ite id))).of_map rfl
  unfold switchDone
  dsimp only
  split
  · exact h.trans (regions_endActive _)
  · exact h

/-- The completion of a switch leaves the map and the engine right, from a state in which `d` alone does not stand
right: it is switching with no transaction left to wait for (R54). -/
theorem fits_switchDone {d : DescIdx} (hg : s.eng.fits) (hne : ∀ e, e ≠ d → (s.desc e).stands s.eng e)
    (hmig : (s.desc d).state = .migrating ↔ s.eng.copies d) (hu : (s.desc d).inUse = true)
    (hcur : (s.desc d).cur = 0) (hprev : (s.desc d).prev = 0) : MapFits (switchDone d s) := by
  have hrest : ∀ e, ((s.modDesc d fun x =>
      { x with switching := false, state := if x.state = .migrating then .live else x.state }).desc e).countsRest e :=
    fun e => by
      rw [State.modDesc_desc]
      split
      · next he => subst he; exact Desc.countsRest_of_zero hcur hprev rfl
      · next he => exact (hne e he).1
  unfold switchDone
  dsimp only
  split
  · next hm =>
    obtain ⟨_, j, hj, _⟩ := hmig.1 hm
    refine fits_endActive _ (by simp [hj]) hg fun e => ⟨hrest e, ?_⟩
    rw [raise_desc, State.modDesc_desc]
    split
    · simp
    · next he => exact (hne e he).2.1.1
  · next hm =>
    refine mapFits_iff.2 ⟨hg, fun e => ⟨hrest e, ?_⟩⟩
    rw [raise_desc, State.modDesc_desc]
    split
    · next he => subst he; simpa [hm] using fun hk => hm (hmig.2 hk)
    · next he => exact (hne e he).2

theorem decrement_region (gen : BitVec 8) (d : DescIdx) (x : Desc) : Desc.RegionStep d x (x.decrement gen) := by
  unfold Desc.decrement
  split <;> exact Desc.regionStep_settled d rfl rfl (.inl rfl)

theorem regions_drainEnd (d : DescIdx) : RegionsStep s (drainEnd d s) := by
  unfold drainEnd
  split
  · next h =>
    refine (regionsStep_modDesc d Desc.freed ⟨fun _ hx => ?_, .inr ⟨rfl, ?_, ?_⟩⟩).of_map rfl
    · rw [h.1] at hx; cases hx
    · exact Nat.le_refl 12
    · exact Nat.le_of_ble_eq_true rfl
  · exact .refl

theorem kept_drainEnd (d : DescIdx) : MapKept s (drainEnd d s) := by
  refine .of_step (regions_drainEnd d) fun hs => ?_
  unfold drainEnd
  split
  · next h =>
    refine mapFits_iff.2 ⟨(mapFits_iff.1 hs).1, fun e => ?_⟩
    obtain ⟨hrest, hmig, hcut⟩ := (mapFits_iff.1 hs).2 e
    rw [raise_desc, State.modDesc_desc]
    split
    · next he =>
      subst he
      refine ⟨Desc.countsRest_of_zero rfl rfl rfl, ⟨nofun, fun hk => ?_⟩, nofun⟩
      rw [hmig.2 hk] at h; exact absurd h.1 nofun
    · exact ⟨hrest, hmig, hcut⟩
  · exact hs

/-- A count falls by one: the descriptor stands as before, unless that was the last transaction its switch waits
for (R49). -/
theorem decrement_stands {g : Engine} {d : DescIdx} {x : Desc} (gen : BitVec 8) (h : x.stands g d)
    (hw : ¬(gen ≠ x.gen ∧ x.switching = true ∧ x.prev - 1 = 0)) : (x.decrement gen).stands g d := by
  obtain ⟨⟨hcur, hsw, hprev⟩, hmig, hcut⟩ := h
  unfold Desc.decrement
  split
  · refine ⟨⟨fun hd ho => ?_, fun h => ?_, hprev⟩, hmig, hcut⟩
    · simp [hcur hd ho]
    · obtain ⟨h1, h2, h3⟩ := hsw h
      exact ⟨h1, by simp [h2], h3⟩
  · next hgen =>
    refine ⟨⟨hcur, fun h => ?_, fun h => ?_⟩, hmig, hcut⟩
    · obtain ⟨h1, h2, _⟩ := hsw h
      exact ⟨h1, h2, fun h0 => hw ⟨hgen, h, h0⟩⟩
    · exact hprev fun h0 => h (by simp [h0])

theorem kept_uncount (c : Counted) : MapKept s (uncount c s) := by
  have hdec : RegionsStep s (s.modDesc c.index (Desc.decrement c.gen)) :=
    regionsStep_modDesc c.index _ (decrement_region _ _ _)
  have hgen : ((s.desc c.index).decrement c.gen).gen = (s.desc c.index).gen := by unfold Desc.decrement; split <;> rfl
  have hswi : ((s.desc c.index).decrement c.gen).switching = (s.desc c.index).switching := by
    unfold Desc.decrement; split <;> rfl
  unfold uncount
  simp only [State.modDesc_desc_self, hgen, hswi]
  split
  · next h =>
    obtain ⟨hne, hsw, hzero⟩ := h
    refine MapKept.trans (t := release (Hold.onSwitch c.index) (switchDone c.index (s.modDesc c.index _)))
      (.of_step ((hdec.trans (regions_switchDone c.index)).of_map rfl) fun hs => ?_)
      (kept_recheckStart c.index)
    obtain ⟨hg, hd⟩ := mapFits_iff.1 hs
    obtain ⟨hrest, hmig, _⟩ := hd c.index
    obtain ⟨hu, hcur, _⟩ := hrest.2.1 hsw
    refine (kept_release _).fits (fits_switchDone hg (fun e he => ?_) ?_ ?_ ?_ ?_)
    · rw [State.modDesc_desc_ne _ _ he]; exact hd e
    · simpa [Desc.decrement, hne] using hmig
    · simpa [Desc.decrement, hne, Desc.inUse] using hu
    · simpa [Desc.decrement, hne] using hcur
    · rw [State.modDesc_desc_self]; exact hzero
  · next hw =>
    refine MapKept.trans (.of_step hdec fun hs => ?_) (kept_drainEnd c.index)
    obtain ⟨hg, hd⟩ := mapFits_iff.1 hs
    refine mapFits_iff.2 ⟨hg, fun e => ?_⟩
    rw [State.modDesc_desc]
    split
    · next he =>
      subst he
      refine decrement_stands c.gen (hd c.index) fun hk => hw ⟨hk.1, hk.2.1, ?_⟩
      simpa [Desc.decrement, hk.1] using hk.2.2
    · exact hd e

theorem kept_uncountIf (c : Option Counted) : MapKept s (uncountIf c s) := by
  cases c with
  | none => exact .refl
  | some c => exact kept_uncount c

end Sys2Proof.Machine
end

section
/-! SUPPORT. The monitors, the Initiator Ports and the Target Ports keep the laws of the map. -/

namespace Sys2Proof.Machine

variable {s t u : State}

/-! ## The monitors

A monitor's requests reach the queue and last outcomes alone (R106, R107). -/

theorem standing_foldl {α : Type} (f : State → α → State) (h : ∀ s a, SameStanding s (f s a)) :
    ∀ (l : List α) (s : State), SameStanding s (l.foldl f s)
  | [], _ => .refl
  | a :: l, s => (h s a).trans (standing_foldl f h l (f s a))

theorem standing_modMon (m : Fin 16) (f : Monitor → Monitor) : SameStanding s (s.modMon m f) := .of_same rfl rfl

theorem standing_endQueued (j : Job) (e : Ending) : SameStanding s (endQueued j e s) := by
  refine ⟨fun d => ?_, _, _, _, _, endQueued_eng s j e⟩
  rw [endQueued_desc]
  split
  · exact ⟨_, rfl⟩
  · exact ⟨(s.desc d).outcome, rfl⟩

theorem standing_enqueue (d : Fin 64) (w : Window) (m : Mode) (o : Origin) : SameStanding s (enqueue d w m o s) :=
  ⟨fun d => ⟨(s.desc d).outcome, rfl⟩, _, _, _, _, rfl⟩

theorem standing_monitorEnqueue (m : Fin 16) (w : Template) (o : Origin) :
    SameStanding s (monitorEnqueue m w o s).1 := by
  unfold monitorEnqueue
  split
  · exact .of_same rfl rfl
  · exact standing_enqueue _ _ _ _

theorem standing_takeIdleAsk (m : Fin 16) : SameStanding s (takeIdleAsk m s) := by
  unfold takeIdleAsk
  split
  · exact .refl
  · next w _ =>
    have h := standing_monitorEnqueue (s := s) m w (.monitorIdle m)
    split
    · next he => rw [he] at h; exact h.trans (standing_modMon m _)
    · next he => rw [he] at h; exact h

theorem standing_takeWakeAsk (m : Fin 16) : SameStanding s (takeWakeAsk m s) := by
  unfold takeWakeAsk
  split
  · exact .refl
  · exact standing_monitorEnqueue ..

theorem standing_takeWithdrawal (m : Fin 16) (id : BitVec 8) : SameStanding s (takeWithdrawal m id s) := by
  unfold takeWithdrawal
  split
  · exact (standing_endQueued _ _).trans (standing_modMon m _)
  · exact .of_same rfl rfl

theorem standing_takeAsk (m : Fin 16) : SameStanding s (takeAsk m s) := by
  unfold takeAsk
  dsimp only
  split
  · exact .refl
  · exact (standing_modMon m _).trans (standing_takeIdleAsk m)
  · exact (standing_modMon m _).trans (standing_takeWithdrawal m _)
  · exact (standing_modMon m _).trans (standing_takeWakeAsk m)

theorem standing_finishAsks (m : Fin 16) : SameStanding s (finishAsks m s) :=
  (standing_takeAsk m).trans (standing_takeAsk m)

/-- Monitors that finish their requests do so one after another. -/
theorem finishAll_foldl (sel : Monitor → Bool) (s : State) :
    ∃ (ms : List (Fin 16)) (n : Nat), finishAll sel s = ms.foldl (fun s m => finishAsks m s) { s with freeDraws := n } := ⟨_, _, rfl⟩

theorem standing_finishAll (sel : Monitor → Bool) : SameStanding s (finishAll sel s) := by
  obtain ⟨ms, n, h⟩ := finishAll_foldl sel s
  rw [h]
  exact SameStanding.trans (t := { s with freeDraws := n }) (.of_same rfl rfl)
    (standing_foldl _ (fun _ m => standing_finishAsks m) _ _)

theorem kept_takeArrival (a : Arrival) : MapKept s (takeArrival a s) := by
  have htick (m : Fin 16) : MapKept s (takeTick m s) := by
    unfold takeTick
    split
    · exact .refl
    · exact .refl
    · split <;> exact .of_same rfl rfl
  have haccess (m : Fin 16) : MapKept s (takeAccess m s) := by
    unfold takeAccess
    split <;> exact .of_same rfl rfl
  cases a with
  | tick m src =>
    simp only [takeArrival]
    split
    · exact htick m
    · exact .refl
  | access m d dir =>
    simp only [takeArrival]
    split
    · exact haccess m
    · exact .refl

/-! ## Resolution -/

/-- The candidate that the Resolver holds best is a candidate (R29). -/
theorem candidate_of_foldl (a : Addr) (l : List (Fin 64)) (best : Option (Fin 64)) (d : Fin 64)
    (hbest : ∀ e, best = some e → (s.desc (ordIdx e)).candidate a = true)
    (h : l.foldl (betterCandidate s a) best = some d) : (s.desc (ordIdx d)).candidate a = true := by
  induction l generalizing best with
  | nil => exact hbest d h
  | cons e l ih =>
    refine ih (betterCandidate s a best e) (fun f hf => ?_) h
    unfold betterCandidate at hf
    split at hf
    · next he =>
      split at hf
      · cases hf; exact he
      · split at hf <;> cases hf
        · exact he
        · exact hbest _ rfl
    · exact hbest f hf

/-- The winner is the floor or a descriptor in use (R29). -/
theorem winner_inUse (s : State) (a : Addr) : winner s a = floorIdx ∨ (s.desc (winner s a)).inUse = true := by
  unfold winner
  split
  · next d h =>
    have := candidate_of_foldl a ordinaries none d nofun h
    simp only [Desc.candidate, Bool.and_eq_true] at this
    exact .inr this.1
  · exact .inl rfl

/-- Legs are formed on a descriptor that is not switching (R31 step 1). -/
theorem resolveOn_legs_still {d : DescIdx} {i : Fin 4} {dir : Dir} {a : Addr} {ls : List Leg}
    (h : resolveOn s d i dir a = .legs ls) : (s.desc d).switching = false := by
  by_contra hs
  have hs : (s.desc d).switching = true := by simpa using hs
  cases dir <;> simp [resolveOn, resolveRead, resolveWrite, hs] at h

/-- A transaction is counted on a winner that is not switching (R48). -/
theorem kept_counted {d : DescIdx} (hu : d = floorIdx ∨ (s.desc d).inUse = true) (hs : (s.desc d).switching = false) :
    MapKept s (s.modDesc d fun x => { x with cur := x.cur + 1 }) := by
  refine .of_step (regionsStep_modDesc d _ (Desc.regionStep_settled d rfl rfl (.inl rfl))) fun h => ?_
  refine mapFits_iff.2 ⟨(mapFits_iff.1 h).1, fun e => ?_⟩
  obtain ⟨⟨hcur, hsw, hprev⟩, hmig⟩ := (mapFits_iff.1 h).2 e
  rw [State.modDesc_desc]
  split
  · next he =>
    subst he
    refine ⟨⟨fun hne ho => ?_, fun hk => ?_, hprev⟩, hmig⟩
    · rcases hu.resolve_left hne with hk
      rcases ho with ho | ho <;> simp [Desc.inUse, show (s.desc e).state = _ from ho] at hk
    · rw [show (s.desc e).switching = true from hk] at hs; cases hs
  · exact ⟨⟨hcur, hsw, hprev⟩, hmig⟩

theorem kept_resolveSlot (i : Fin 4) (k : Fin 8) : MapKept s (resolveSlot i k s) := by
  unfold resolveSlot
  dsimp only
  split
  · exact .of_same rfl rfl
  · exact .of_same rfl rfl
  · exact .of_same rfl rfl
  · exact .of_same rfl rfl
  · exact .of_same rfl rfl
  · exact .of_same rfl rfl
  · next h => exact (kept_counted (winner_inUse s _) (resolveOn_legs_still h)).trans (.of_same rfl rfl)

theorem kept_acceptRequest (i : Fin 4) (r : Request) : MapKept s (acceptRequest i r s) := by
  unfold acceptRequest
  dsimp only
  split
  · exact .refl
  · split
    · exact .of_same rfl rfl
    · split
      · exact .refl
      · split
        · exact .of_same rfl rfl
        · exact MapKept.trans (t := fillSlot i _ r s) (.of_same rfl rfl) (kept_resolveSlot _ _)

theorem kept_reResolve (i : Fin 4) : MapKept s (reResolve i s) := by
  unfold reResolve
  split
  · exact .refl
  · exact MapKept.trans (t := s.modPort i _) (.of_same rfl rfl) (kept_resolveSlot _ _)

/-! ## The Initiator Ports -/

theorem kept_takeResponse (i : Fin 4) : MapKept s (takeResponse i s) := by
  unfold takeResponse
  dsimp only
  split
  · exact .refl
  · split
    · exact .refl
    · exact .of_same rfl rfl
    · exact MapKept.trans (t := s.modPort i _) (.of_same rfl rfl) (kept_uncountIf _)

theorem kept_finishSlot (i : Fin 4) (k : Fin 8) : MapKept s (finishSlot i k s) := by
  unfold finishSlot
  dsimp only
  split
  · split
    · exact .of_same rfl rfl
    · exact MapKept.trans (t := s.modPort i _) (.of_same rfl rfl) (kept_uncountIf _)
    · exact .refl
    · exact .refl
    · exact .refl
  · exact .refl

theorem kept_reportMirror (i : Fin 4) (k : Fin 8) (r : LegRole) : MapKept s (reportMirror i k r s) := by
  unfold reportMirror
  dsimp only
  split
  · exact kept_mirrorReport _ _
  · exact .refl

theorem kept_legResult (i : Fin 4) (k : Fin 8) (r : LegRole) (code : TargetCode) (data : List Byte) :
    MapKept s (legResult i k r code data s) := by
  unfold legResult
  cases code with
  | ok => exact MapKept.trans (t := s.modSlot i k _) (.of_same rfl rfl) (kept_finishSlot i k)
  | error =>
    exact MapKept.trans (t := s.modSlot i k _) (.of_same rfl rfl) ((kept_reportMirror i k r).trans (kept_finishSlot i k))

theorem kept_assertIrst (i : Fin 4) : MapKept s (assertIrst i s) :=
  MapKept.trans (t := s.modPort i _) (.of_same rfl rfl) (kept_foldl _ _ _ fun c _ _ => kept_uncountIf c)

theorem kept_ownerResult (o : Owner) (code : TargetCode) (data : List Byte) :
    MapKept s (ownerResult o code data s) := by
  cases o with
  | leg i k r => exact kept_legResult i k r code data
  | meng => exact kept_copyResult code data

/-! ## The Target Ports -/

theorem kept_enterOffline (p : Fin 4) : MapKept s (enterOffline p s) :=
  MapKept.trans (t := raise (.offline p) (raise (.target p) (s.modTPort p _))) (.of_same rfl rfl)
    (kept_foldl _ _ _ fun r _ _ => kept_ownerResult r.owner .error [])

theorem kept_targetAnswers (p : Fin 4) (num : BitVec 4) (code : TargetCode) (data : List Byte) :
    MapKept s (targetAnswers p num code data s) := by
  unfold targetAnswers
  split
  · exact .refl
  · split
    · exact kept_enterOffline p
    · dsimp only
      split
      · refine MapKept.trans (.of_same ?_ ?_) (kept_ownerResult _ _ _) <;> cases code <;> rfl
      · exact kept_enterOffline p

theorem kept_expireTimer (p : Fin 4) : MapKept s (expireTimer p s) := by
  unfold expireTimer
  split
  · exact kept_enterOffline p
  · exact .refl

/-- The engine presents a copy request only with none outstanding, for the source read or the destination write (R122). -/
theorem mengRequest_some {p : Fin 4} {b : ReqBody} (h : mengRequest s p = some b) :
    s.eng.outstanding = 0 ∧ (s.eng.lineStep = some .sourceRead ∨ s.eng.lineStep = some .destWrite) := by
  unfold mengRequest at h
  split at h
  · next hstep =>
    split at h
    · split at h
      · next hc => exact ⟨hc.1, .inl hstep⟩
      · cases h
    · cases h
  · next hstep =>
    split at h
    · next hc => exact ⟨hc.1, .inr hstep⟩
    · cases h
  · cases h
  · cases h
  · cases h

theorem kept_mengGranted (ho : s.eng.outstanding = 0)
    (hstep : s.eng.lineStep = some .sourceRead ∨ s.eng.lineStep = some .destWrite) : MapKept s (mengGranted s) := by
  refine kept_eng_job rfl rfl fun hg => ⟨⟨hg.1, hg.2.1, by simp [ho], fun _ => by simp [ho], fun _ => ?_⟩, .rfl⟩
  exact .inr hstep

theorem kept_handOver (p : Fin 4) (r : Requester) : MapKept s (handOver p r s).1 := by
  unfold handOver
  split
  · split
    · next h => obtain ⟨ho, hstep⟩ := mengRequest_some h; exact kept_mengGranted ho hstep
    · exact .refl
  · split <;> exact .of_same rfl rfl

theorem kept_takeGrant (p : Fin 4) (b : ReqBody) (o : Owner) : MapKept s (takeGrant p b o s) := by
  unfold takeGrant
  split
  · exact .of_same rfl rfl
  · exact MapKept.trans (t := raise (.target p) s) (.of_same rfl rfl) (kept_ownerResult _ _ _)

theorem kept_grant (p : Fin 4) : MapKept s (grant p s) := by
  unfold grant
  split
  · exact .refl
  · split
    · exact .refl
    · next r _ =>
      have h : MapKept s (handOver p r (s.modTPort p fun x => { x with lastGranted := r })).1 :=
        MapKept.trans (t := s.modTPort p _) (.of_same rfl rfl) (kept_handOver p r)
      split
      · next he => rw [he] at h; exact h.trans (kept_takeGrant p _ _)
      · next he => rw [he] at h; exact h

end Sys2Proof.Machine
end

section
/-! SUPPORT. The commands, and so every step, keep the laws of the map. -/

namespace Sys2Proof.Machine

variable {s t u : State}

/-! ## Commands at the Management Port -/

/-- What an owning block does with a command keeps the laws of the map. -/
def KeepsMap (act : Action) : Prop := ∀ s, MapKept s (act s).1

/-- A command whose own part keeps the laws keeps them when it is written to COMMAND (R169). -/
theorem kept_writeCommand {code : BitVec 8} {act : Action} (h : KeepsMap act) :
    MapKept s (writeCommand code act s) := by
  have hlatch : MapKept s (latchCommand code s) := .of_same rfl rfl
  rcases writeCommand_cases s code act with hw | ⟨_, ⟨t, e, ha, hw⟩ | ⟨t, ha, hw⟩⟩ <;> rw [hw]
  · exact .of_same rfl rfl
  · have := h (latchCommand code s)
    rw [ha] at this
    exact (hlatch.trans this).trans (.of_same rfl rfl)
  · have := h (latchCommand code s)
    rw [ha] at this
    exact hlatch.trans this

@[simp] theorem finished_fst (s : State) : (finished s).1 = s := rfl

theorem kept_withIndex {n : Nat} {act : DescIdx → Action} (h : ∀ d, KeepsMap (act d)) :
    KeepsMap (withIndex n act) := fun s => by
  unfold withIndex
  split
  · exact h _ s
  · exact .refl

theorem kept_withMonitor {n : Nat} {act : Fin 16 → Action} (h : ∀ m, KeepsMap (act m)) :
    KeepsMap (withMonitor n act) := fun s => by
  unfold withMonitor
  split
  · exact h _ s
  · exact .refl

/-! ## STAGE and ACTIVATE -/

/-- STAGE writes a size in range (R14). -/
theorem parseStage_size {p : Vector Word 6} {base : Addr} {size : Nat} {f : RouteFields}
    (h : parseStage p = some (base, size, f)) : 12 ≤ size ∧ size ≤ 28 := by
  unfold parseStage at h
  split at h
  · next hc =>
    obtain ⟨f', _, he⟩ := Option.map_eq_some_iff.1 h
    obtain ⟨-, rfl, -⟩ : _ ∧ paramSize p = size ∧ _ := by simpa using he
    exact hc.2
  · cases h

/-- A change of one descriptor that leaves the engine: the other descriptors stand as before. -/
theorem kept_modDesc (d : DescIdx) (f : Desc → Desc) (hr : Desc.RegionStep d (s.desc d) (f (s.desc d)))
    (hf : (s.desc d).stands s.eng d → (f (s.desc d)).stands s.eng d) : MapKept s (s.modDesc d f) := by
  refine .of_step (regionsStep_modDesc d f hr) fun hs => ?_
  obtain ⟨hg, hd⟩ := mapFits_iff.1 hs
  refine mapFits_iff.2 ⟨hg, fun e => ?_⟩
  rw [State.modDesc_desc]
  split
  · next he => subst he; exact hf (hd e)
  · exact hd e

/-- A descriptor out of use has no transaction in flight (R11); the floor may have a current one. -/
theorem Desc.countsRest.prev_of_unused {d : DescIdx} {x : Desc} (h : x.countsRest d)
    (hx : x.state = .free ∨ x.state = .staged) : x.switching = false ∧ x.prev = 0 := by
  have hsw : x.switching = false := h.not_switching (by rcases hx with k | k <;> simp [Desc.inUse, k])
  exact ⟨hsw, h.prev_zero hsw (by rcases hx with k | k <;> rw [k] <;> nofun)⟩

theorem kept_stageAct : KeepsMap stageAct := fun s => by
  refine kept_withIndex (fun d s => ?_) s
  split
  · exact .refl
  · next hfloor =>
    split
    · exact .refl
    · next hstate =>
      have hstate : (s.desc d).state = .free ∨ (s.desc d).state = .staged := by
        by_contra h; exact hstate (by simpa [not_or] using h)
      split
      · exact .refl
      · next base size f hp =>
        obtain ⟨hlo, hhi⟩ := parseStage_size hp
        refine kept_modDesc d (fun x => x.staged base size f) ⟨fun h => absurd h hfloor, .inr ⟨rfl, hlo, hhi⟩⟩ fun hx => ?_
        obtain ⟨hrest, hmig, _⟩ := hx
        have hprev := (hrest.prev_of_unused hstate).2
        refine ⟨Desc.countsRest_of_zero (hrest.1 hfloor hstate) hprev rfl, ⟨nofun, fun hk => ?_⟩, nofun⟩
        rw [hmig.2 hk] at hstate
        rcases hstate with h | h <;> cases h

/-- ACTIVATE passes its checks on a STAGED and aligned descriptor whose region no other one in use has (R16). -/
theorem activateRefusal_none {d : DescIdx} (h : activateRefusal s d = none) :
    (s.desc d).state = .staged ∧ (s.desc d).base.toNat % 2 ^ (s.desc d).size = 0 ∧ s.conflicts d = false := by
  unfold activateRefusal at h
  dsimp only at h
  split at h
  · cases h
  · next hst =>
    split at h
    · cases h
    · next hal =>
      split at h
      · cases h
      · split at h
        · cases h
        · next hc => exact ⟨by simpa using hst, by simpa using hal, by simpa using hc⟩

theorem not_conflicts {d : DescIdx} (h : s.conflicts d = false) (e : Fin 64) (hne : ordIdx e ≠ d)
    (he : (s.desc (ordIdx e)).holdsRegion = true) :
    ¬((s.desc (ordIdx e)).base = (s.desc d).base ∧ (s.desc (ordIdx e)).size = (s.desc d).size) := by
  rintro ⟨hb, hz⟩
  have : s.conflicts d = true := by
    unfold State.conflicts
    rw [List.any_eq_true]
    exact ⟨e, mem_ordinaries e, by simp [hne, he, hb, hz]⟩
  rw [h] at this; cases this

/-- The record that ACTIVATE makes (R17). -/
def Desc.activated (x : Desc) : Desc := { x with state := .live, switching := false }

theorem kept_activated_desc {d : DescIdx} (h : activateRefusal s d = none) : MapKept s (s.modDesc d Desc.activated) := by
  obtain ⟨hst, hal, hconf⟩ := activateRefusal_none h
  refine ⟨fun hf => ?_, fun hf e => ?_, fun hf => ?_, fun hf => mapFits_iff.2 ⟨(mapFits_iff.1 hf).1, fun e => ?_⟩⟩
  · have hne : floorIdx ≠ d := by rintro rfl; rw [hf.1] at hst; cases hst
    unfold FloorFixed
    rwa [State.modDesc_desc_ne _ _ hne]
  · obtain ⟨hlo, hhi, ha⟩ := hf e
    rw [State.modDesc_desc]
    split
    · next he => exact ⟨he ▸ hlo, he ▸ hhi, fun _ => hal⟩
    · exact ⟨hlo, hhi, ha⟩
  · have key (e e' : Fin 64) (hne : e ≠ e') (hd : ordIdx e = d) (hu : (s.desc (ordIdx e')).holdsRegion = true) :
        ¬((s.desc (ordIdx e')).base = (s.desc d).base ∧ (s.desc (ordIdx e')).size = (s.desc d).size) :=
      not_conflicts hconf e' (by rw [← hd]; simpa using hne.symm) hu
    intro e e' hne he he'
    rw [State.modDesc_desc] at he he' ⊢
    rw [State.modDesc_desc]
    split at he <;> split at he'
    · next h1 h2 => exact absurd (ordIdx_inj.1 (h1.trans h2.symm)) hne
    · next h1 h2 =>
      rw [if_pos h1, if_neg h2]
      exact fun h => key e e' hne h1 he' ⟨h.1.symm, h.2.symm⟩
    · next h1 h2 =>
      rw [if_neg h1, if_pos h2]
      exact key e' e hne.symm h2 he
    · next h1 h2 =>
      rw [if_neg h1, if_neg h2]
      exact hf e e' hne he he'
  · obtain ⟨hrest, hmig, hcut⟩ := (mapFits_iff.1 hf).2 e
    rw [State.modDesc_desc]
    split
    · next he =>
      subst he
      have hprev := (hrest.prev_of_unused (.inr hst)).2
      refine ⟨⟨nofun, nofun, fun h => absurd hprev h⟩, ⟨nofun, fun hk => ?_⟩, nofun⟩
      rw [hmig.2 hk] at hst; cases hst
    · exact ⟨hrest, hmig, hcut⟩

theorem kept_activateAct : KeepsMap activateAct := fun s => by
  refine kept_withIndex (fun d s => ?_) s
  split
  · exact .refl
  · next h => exact kept_activated_desc h

/-! ## MODIFY -/

/-- MODIFY starts a switch on a LIVE descriptor that is not switching (R18). -/
theorem kept_modified {d : DescIdx} (f : RouteFields) (hlive : (s.desc d).state = .live)
    (hsw : (s.desc d).switching = false) : MapKept s (startSwitch d (s.modDesc d fun x => x.modified f)) := by
  have hdesc (e : DescIdx) : ∃ r w m q, (s.modDesc d fun x => x.modified f).desc e =
      { s.desc e with read := r, write := w, mirror := m, perms := q } := by
    rw [State.modDesc_desc]
    split
    · next he => subst he; exact ⟨_, _, _, _, rfl⟩
    · exact ⟨_, _, _, _, rfl⟩
  refine .of_step (RegionsStep.trans (fun e => ?_) (regions_startSwitch d)) fun hs => fits_startSwitch ?_
  · obtain ⟨r, w, m, q, he⟩ := hdesc e
    rw [he]; exact Desc.regionStep_settled e rfl rfl (.inl rfl)
  · obtain ⟨hg, hd⟩ := mapFits_iff.1 hs
    obtain ⟨r, w, m, q, hx⟩ := hdesc d
    refine ⟨hg, fun e => ?_, fun e => ?_, fun e _ hm => ?_, ?_, ?_, fun hm => ?_⟩
    · obtain ⟨r, w, m, q, he⟩ := hdesc e
      rw [he]; exact (hd e).1
    · obtain ⟨r, w, m, q, he⟩ := hdesc e
      rw [he]; exact (hd e).2.1
    · obtain ⟨r, w, m, q, he⟩ := hdesc e
      rw [he] at hm ⊢; exact (hd e).2.2 hm
    · rw [hx]; simp [Desc.inUse, hlive]
    · rw [hx]; exact hsw
    · rw [hx] at hm; rw [hlive] at hm; cases hm

theorem kept_modifyAct : KeepsMap modifyAct := fun s => by
  refine kept_withIndex (fun d s => ?_) s
  split
  · exact .refl
  · next hlive =>
    split
    · exact .refl
    · next hsw =>
      split
      · exact .refl
      · next f _ =>
        split
        · exact .refl
        · exact kept_modified f (by simpa using hlive) (by simpa using hsw)

/-! ## RETIRE -/

/-- The record that leaves use at RETIRE (R21). -/
def Desc.leaving (x : Desc) : Desc := { x with state := .draining, switching := false }

theorem kept_leaveUse {d : DescIdx} (hfloor : d ≠ floorIdx) (hu : (s.desc d).inUse = true) : MapKept s (leaveUse d s) := by
  have hr : RegionsStep s (s.modDesc d Desc.leaving) :=
    regionsStep_modDesc d _ ⟨fun h => absurd h hfloor, .inl ⟨rfl, rfl, fun _ => by simp [Desc.holdsRegion, hu]⟩⟩
  have hrest (hs : MapFits s) (e : DescIdx) : ((s.modDesc d Desc.leaving).desc e).countsRest e := by
    rw [State.modDesc_desc]
    split
    · exact ⟨fun _ h => (by rcases h with h | h <;> cases h), nofun, fun _ => .inr rfl⟩
    · exact ((mapFits_iff.1 hs).2 e).1
  unfold leaveUse
  dsimp only
  split
  · next hm =>
    refine .of_step (hr.trans (regions_endActive _)) fun hs => ?_
    obtain ⟨hg, hd⟩ := mapFits_iff.1 hs
    obtain ⟨_, j, hj, _⟩ := (hd d).2.1.1 hm
    refine fits_endActive _ (by simp [hj]) hg fun e => ⟨hrest hs e, ?_⟩
    rw [State.modDesc_desc]
    split
    · nofun
    · exact (hd e).2.1.1
  · next hm =>
    refine .of_step hr fun hs => ?_
    obtain ⟨hg, hd⟩ := mapFits_iff.1 hs
    refine mapFits_iff.2 ⟨hg, fun e => ⟨hrest hs e, ?_⟩⟩
    rw [State.modDesc_desc]
    split
    · next he => subst he; exact ⟨⟨nofun, fun hk => absurd ((hd e).2.1.2 hk) hm⟩, nofun⟩
    · exact (hd e).2

theorem kept_withdraw {d : DescIdx} (hfloor : d ≠ floorIdx) (hu : (s.desc d).inUse = true) : MapKept s (withdraw d s) := by
  unfold withdraw
  dsimp only
  refine (kept_leaveUse hfloor hu).trans (MapKept.trans (.of_same ?_ ?_) ((kept_recheckStart d).trans (kept_drainEnd d)))
  · dsimp only; split <;> rfl
  · dsimp only; split <;> rfl

theorem finishMonitorsOn_state (d e : DescIdx) : ((finishMonitorsOn d s).desc e).state = (s.desc e).state := by
  obtain ⟨o, ho⟩ := (standing_finishAll (s := s) fun x => decide (ordIdx x.subject = d) && decide (x.state ≠ .off)).desc e
  rw [finishMonitorsOn, ho]

theorem kept_retired {d : DescIdx} (hfloor : d ≠ floorIdx) (hu : (s.desc d).inUse = true) :
    MapKept s (withdraw d (finishMonitorsOn d s)) := by
  refine MapKept.trans (t := finishMonitorsOn d s) (standing_finishAll _).kept (kept_withdraw hfloor ?_)
  simpa only [Desc.inUse, finishMonitorsOn_state] using hu

theorem freed_size (x : Desc) : 12 ≤ x.freed.size ∧ x.freed.size ≤ 28 := by
  have h : x.freed.size = 12 := rfl
  omega

/-- A STAGED descriptor becomes FREE (R20). -/
theorem kept_unstaged {d : DescIdx} (hfloor : d ≠ floorIdx) (hst : (s.desc d).state = .staged) :
    MapKept s (s.modDesc d Desc.freed) := by
  refine kept_modDesc d Desc.freed ⟨fun h => absurd h hfloor, .inr ⟨rfl, freed_size _⟩⟩ fun hx => ?_
  refine ⟨Desc.countsRest_of_zero rfl rfl rfl, ⟨nofun, fun hk => ?_⟩, nofun⟩
  rw [hx.2.1.2 hk] at hst; cases hst

theorem kept_retireAct : KeepsMap retireAct := fun s => by
  refine kept_withIndex (fun d s => ?_) s
  split
  · exact .refl
  · next hfloor =>
    split
    · exact .refl
    · exact .refl
    · next hst => exact kept_unstaged hfloor hst
    · next hst => rw [finished_fst]; exact kept_retired hfloor (by simp [Desc.inUse, hst])
    · next hst => rw [finished_fst]; exact kept_retired hfloor (by simp [Desc.inUse, hst])

/-! ## Reading commands -/

theorem kept_readDescriptorAct : KeepsMap readDescriptorAct := fun s =>
  kept_withIndex (fun _ _ => .refl) s

theorem kept_probeAct : KeepsMap probeAct := fun s => by
  unfold probeAct
  dsimp only
  split
  · exact .refl
  · split
    · split <;> exact .refl
    · exact .refl

theorem kept_queryJobAct : KeepsMap queryJobAct := fun s => by
  unfold queryJobAct
  dsimp only
  split
  · exact .refl
  · split
    · exact .refl
    · split <;> exact .refl

/-! ## Jobs -/

theorem kept_enqueueAtOnce (d : Fin 64) (w : Window) (m : Mode) : MapKept s (enqueueAtOnce d w m s) := by
  unfold enqueueAtOnce
  split
  · exact (standing_enqueue _ _ _ _).kept.trans kept_activateAtOnce
  · exact (standing_enqueue _ _ _ _).kept

theorem kept_queueMigrationAct : KeepsMap queueMigrationAct := fun s => by
  unfold queueMigrationAct
  split
  · exact .refl
  · split
    · split
      · exact .refl
      · exact kept_enqueueAtOnce _ _ _
    · exact .refl

theorem kept_cancelJobAct : KeepsMap cancelJobAct := fun s => by
  unfold cancelJobAct
  dsimp only
  split
  · exact .refl
  · split
    · exact (standing_endQueued _ _).kept
    · split
      · exact .refl
      · split
        · exact .refl
        · exact kept_endActive _

/-- HALT ENGINE keeps the active job and leaves CUTOVER alone (R114). -/
theorem halt_some {g h : Engine} (hh : g.halt = some h) :
    h.active = g.active ∧ h.started = g.started ∧ (h.state = .cutover ↔ g.state = .cutover) ∧ (g.fits → h.fits) := by
  unfold Engine.halt at hh
  split at hh
  · cases hh
  · have halted (hs : g.state = .idle ∨ g.state = .starting ∨ g.state = .copying) (hl : g.lineInFlight = none) :
        g.fits → Engine.fits { g with state := .halted } := fun hg => by
      refine Engine.fits_of_quiet (fun h => ?_) hl (hg.step_none hl)
        (hg.outstanding_zero (by rcases hs with k | k | k <;> rw [k] <;> nofun) hl) nofun
      have h : g.started = true := h
      rcases hs with k | k | k
      · rw [(hg.idle k).2] at h; cases h
      · exact (hg.starting k).1
      · exact (hg.copying k).1
    split at hh
    · cases hh
    · next hs => cases hh; exact ⟨rfl, rfl, by simp [hs], fun hg => halted (.inl hs) (hg.no_line (by rw [hs]; nofun)) hg⟩
    · next hs =>
      cases hh; exact ⟨rfl, rfl, by simp [hs], fun hg => halted (.inr (.inl hs)) (hg.no_line (by rw [hs]; nofun)) hg⟩
    · next hs =>
      cases hh
      split
      · exact ⟨rfl, rfl, .rfl, id⟩
      · next hl => exact ⟨rfl, rfl, by simp [hs], halted (.inr (.inr hs)) (by simpa using hl)⟩
    · cases hh; exact ⟨rfl, rfl, .rfl, id⟩
    · cases hh; exact ⟨rfl, rfl, .rfl, id⟩

theorem kept_haltEngineAct : KeepsMap haltEngineAct := fun s => by
  unfold haltEngineAct
  split
  · exact .refl
  · next g h =>
    obtain ⟨ha, hs, hc, hf⟩ := halt_some h
    exact kept_eng_job (f := fun _ => g) ha hs fun hg => ⟨hf hg, hc⟩

/-- A HALTED engine that goes on as its active job, if any, needs (R115). -/
theorem resumed_fits {g : Engine} {st : EngState} (hg : g.fits) (hs : g.state = .halted)
    (hst : Engine.stateFits { g with state := st }) (ha : st ≠ .aborting) : Engine.fits { g with state := st } := by
  have hl := hg.no_line (by rw [hs]; nofun)
  exact Engine.fits_of_quiet hst hl (hg.step_none hl) (hg.outstanding_zero (by rw [hs]; nofun) hl) ha

theorem Engine.fits.halted {g : Engine} (h : g.fits) (hs : g.state = .halted) (ha : g.active = none) :
    g.started = false := by
  have h1 := h.1
  unfold Engine.stateFits at h1
  rw [hs] at h1
  by_contra hst
  have := h1 (by simpa using hst)
  rw [ha] at this; cases this

theorem kept_resumeEngine (hs : s.eng.state = .halted) : MapKept s (resumeEngine s) := by
  unfold resumeEngine
  split
  · next ha =>
    refine MapKept.trans (kept_eng_unstarted fun hg => ?_) kept_activateAtOnce
    have h0 := hg.halted hs ha
    exact ⟨h0, h0, resumed_fits hg hs ⟨ha, h0⟩ nofun⟩
  · next j hj =>
    split
    · next hst =>
      have hcopy : MapKept s (s.modEng fun g => { g with state := .copying }) :=
        kept_eng_job rfl rfl fun hg => ⟨resumed_fits hg hs ⟨by rw [hj]; rfl, hst⟩ nofun, by simp [hs]⟩
      dsimp only
      split
      · refine .of_step (RegionsStep.trans (t := s.modEng _) .refl regions_enterCutover) fun hf => ?_
        exact fits_enterCutover (hcopy.fits hf) rfl ((mapFits_iff.1 hf).1.no_line (by rw [hs]; nofun))
      · exact hcopy
    · next hst =>
      have hst : s.eng.started = false := by simpa using hst
      refine MapKept.trans (kept_eng_unstarted fun hg => ⟨hst, hst, ?_⟩) kept_beginJob
      exact resumed_fits hg hs ⟨by rw [hj]; rfl, hst⟩ nofun

theorem kept_resumeEngineAct : KeepsMap resumeEngineAct := fun s => by
  unfold resumeEngineAct
  split
  · next h => exact kept_resumeEngine h
  · exact .refl

/-! ## Monitors, restore and RESTART -/

theorem kept_setMonitorAct : KeepsMap setMonitorAct := fun s => by
  refine kept_withMonitor (fun m s => ?_) s
  split
  · exact .refl
  · split
    · split
      · exact .refl
      · split
        · exact .refl
        · exact .of_same rfl rfl
    · exact .refl

theorem kept_stopMonitorAct : KeepsMap stopMonitorAct := fun s => by
  refine kept_withMonitor (fun m s => ?_) s
  split
  · exact .refl
  · exact (standing_finishAsks m).kept.trans (.of_same rfl rfl)

theorem kept_readMonitorAct : KeepsMap readMonitorAct := fun s =>
  kept_withMonitor (fun _ _ => .refl) s

theorem kept_restoreTargetAct : KeepsMap restoreTargetAct := fun s => by
  unfold restoreTargetAct
  split
  · split
    · exact .refl
    · exact .of_same rfl rfl
  · exact .refl

theorem standing_writeOutcome (d : DescIdx) (o : LastOutcome) : SameStanding s (writeOutcome d o s) := by
  refine ⟨fun e => ?_, _, _, _, _, rfl⟩
  rw [writeOutcome, State.modDesc_desc]
  split
  · next h => subst h; exact ⟨_, rfl⟩
  · exact ⟨(s.desc e).outcome, rfl⟩

theorem restarted_fits {g : Engine} (b : Word) (h : g.fits) : (g.restarted b).fits := by
  unfold Engine.restarted
  split
  · next ho =>
    have h1 : g.outstanding = 1 := by have := h.2.2.1; omega
    exact ⟨⟨rfl, rfl⟩, ⟨nofun, rfl⟩, h.2.2.1, fun _ => h1, fun _ => .inl rfl⟩
  · next ho => exact Engine.fits_of_quiet ⟨rfl, rfl⟩ rfl rfl (by simpa using ho) nofun

/-- RESTART of the engine on the map: a MIGRATING descriptor of its job becomes LIVE (R118). -/
theorem restartActive_desc (d : DescIdx) : (restartActive s).desc d =
    if s.eng.active.map (fun j => ordIdx j.desc) = some d then
      { s.desc d with state := if s.eng.started = true ∧ (s.desc d).state = .migrating then .live else (s.desc d).state }
    else s.desc d := by
  unfold restartActive
  split
  · next h => simp [h]
  · next j h =>
    rw [release_desc, State.modDesc_desc]
    by_cases hd : d = ordIdx j.desc
    · subst hd; simp [h]
    · simp [h, hd, Ne.symm hd]

theorem kept_restartActive (b : Word) : MapKept s ((restartActive s).modEng fun g => g.restarted b) := by
  have heng : (restartActive s).eng = s.eng := by unfold restartActive; split <;> rfl
  refine .of_step (RegionsStep.of_map (t := restartActive s) (fun d => ?_) rfl) fun hs => ?_
  · rw [restartActive_desc]
    split
    · exact Desc.regionStep_settled d rfl rfl (settled_ite And.right)
    · exact .refl d _
  · obtain ⟨hg, hd⟩ := mapFits_iff.1 hs
    refine mapFits_iff.2 ⟨by rw [State.modEng_eng, heng]; exact restarted_fits b hg, fun d => ?_⟩
    obtain ⟨hrest, hmig, _⟩ := hd d
    have hn : ¬((restartActive s).modEng fun g => g.restarted b).eng.copies d := by rintro ⟨h, _⟩; cases h
    rw [State.modEng_desc, restartActive_desc]
    by_cases hm : (s.desc d).state = .migrating
    · obtain ⟨hst, j, hj, hjd⟩ := hmig.1 hm
      rw [if_pos (by simp [hj, hjd]), if_pos ⟨hst, hm⟩]
      exact ⟨hrest.of_inUse rfl rfl rfl (by simp [Desc.inUse, hm]) rfl, ⟨nofun, fun h => absurd h hn⟩, nofun⟩
    · simp only [hm, and_false, if_false, ite_self]
      exact ⟨hrest, ⟨fun h => absurd h hm, fun h => absurd h hn⟩, fun h => absurd h hm⟩

theorem kept_restartEngine : MapKept s (restartEngine s) :=
  (standing_foldl _ (fun _ (j : Job) => standing_writeOutcome (ordIdx j.desc) (.aborted .restart)) _ _).kept.trans
    (kept_restartActive _)

theorem kept_restartAct : KeepsMap restartAct := fun _ =>
  ((standing_finishAll _).kept.trans kept_restartEngine).trans (.of_same rfl rfl)

/-! ## The window -/

theorem kept_actionOf (code : BitVec 8) : KeepsMap (actionOf code) := by
  unfold actionOf
  split
  · exact kept_stageAct
  · exact kept_activateAct
  · exact kept_modifyAct
  · exact kept_retireAct
  · exact kept_readDescriptorAct
  · exact kept_probeAct
  · exact kept_queueMigrationAct
  · exact kept_cancelJobAct
  · exact kept_queryJobAct
  · exact kept_haltEngineAct
  · exact kept_resumeEngineAct
  · exact kept_setMonitorAct
  · exact kept_stopMonitorAct
  · exact kept_readMonitorAct
  · exact kept_restoreTargetAct
  · exact kept_restartAct
  · exact fun _ => .refl

theorem kept_writeBudget (v : Word) : MapKept s (writeBudget v s) :=
  (⟨fun d => ⟨(s.desc d).outcome, rfl⟩, _, _, _, _, rfl⟩ : SameStanding s (writeBudget v s)).kept

theorem kept_expireBudget : MapKept s (expireBudget s) :=
  (⟨fun d => ⟨(s.desc d).outcome, rfl⟩, _, _, _, _, rfl⟩ : SameStanding s (expireBudget s)).kept

theorem kept_writeWindow (w : WindowWord) (v : Word) : MapKept s (writeWindow w v s) := by
  cases w with
  | command => exact kept_writeCommand (kept_actionOf _)
  | budget => exact kept_writeBudget v
  | ident => exact .refl
  | result => exact .refl
  | unnamed => exact .refl
  | status => exact .of_same rfl rfl
  | param => exact .of_same rfl rfl
  | eventPending => exact .of_same rfl rfl
  | eventRoute => exact .of_same rfl rfl
  | retry => exact .of_same rfl rfl
  | tgtTimeout => exact .of_same rfl rfl

/-! ## Steps -/

theorem kept_endRestore (p : Fin 4) : MapKept s (endRestore p s) := by
  unfold endRestore
  split
  · exact .of_same rfl rfl
  · exact .refl

/-- Every law of the map holds after power-on, whatever was before. -/
theorem kept_of_lawful (h : Lawful t) : MapKept s t := by
  obtain ⟨⟨_, _, _, _, he, hr, hw, hf⟩, ha, hd, _⟩ := h
  exact ⟨fun _ => hf, fun _ => ha, fun _ => hd, fun _ => ⟨he, hr, hw⟩⟩

theorem kept_exec (c : Instr) (h : exec c s = .next t) : MapKept s t := by
  cases c <;> cases h
  case powerOnReset => exact kept_of_lawful (lawful_of_powerOn rfl)
  case irstNAssert i => exact kept_assertIrst i
  case acceptRequest i r => exact kept_acceptRequest i r
  case reResolution i => exact kept_reResolve i
  case responseTaken i => exact kept_takeResponse i
  case arbiterGrant p => exact kept_grant p
  case targetResponse p n c d => exact kept_targetAnswers p n c d
  case responseTimerExpiry p => exact kept_expireTimer p
  case restoreEnd p => exact kept_endRestore p
  case lineBegin => exact kept_beginLine
  case jobActivate => exact kept_activateJob
  case jobStart => exact kept_beginJob
  case budgetExpiry => exact kept_expireBudget
  case stage => exact kept_writeCommand kept_stageAct
  case activate => exact kept_writeCommand kept_activateAct
  case modify => exact kept_writeCommand kept_modifyAct
  case retire => exact kept_writeCommand kept_retireAct
  case readDescriptor => exact kept_writeCommand kept_readDescriptorAct
  case probe => exact kept_writeCommand kept_probeAct
  case queueMigration => exact kept_writeCommand kept_queueMigrationAct
  case cancelJob => exact kept_writeCommand kept_cancelJobAct
  case queryJob => exact kept_writeCommand kept_queryJobAct
  case haltEngine => exact kept_writeCommand kept_haltEngineAct
  case resumeEngine => exact kept_writeCommand kept_resumeEngineAct
  case setMonitor => exact kept_writeCommand kept_setMonitorAct
  case stopMonitor => exact kept_writeCommand kept_stopMonitorAct
  case readMonitor => exact kept_writeCommand kept_readMonitorAct
  case restoreTarget => exact kept_writeCommand kept_restoreTargetAct
  case restart => exact kept_writeCommand kept_restartAct
  case unknownCommand v => exact kept_writeWindow .command v
  case commandOverrun v => exact kept_writeWindow .command v
  case budgetWrite v => exact kept_writeBudget v
  case registerWrite off v => exact kept_writeWindow _ v
  case goIdle m =>
    split
    · exact MapKept.trans (t := { s with arrivals := s.arrivals.erase _ }) (.of_same rfl rfl)
        ((standing_finishAsks m).kept.trans (.of_same rfl rfl))
    · exact .refl
  all_goals exact .of_same rfl rfl

theorem kept_takeEvent (e : PartEvent) : MapKept s (takeEvent e s) := by
  cases e with
  | activate => exact kept_activateJob
  | start => exact kept_beginJob
  | line => exact kept_beginLine
  | ask m => exact (standing_takeAsk m).kept
  | arrive a => exact MapKept.trans (t := { s with arrivals := s.arrivals.erase a }) (.of_same rfl rfl) (kept_takeArrival a)

theorem kept_expiries {f : State → State} (h : f ∈ expiries u) (s : State) : MapKept s (f s) := by
  simp only [expiries, List.mem_append, List.mem_map] at h
  rcases h with ((⟨p, _, rfl⟩ | ⟨p, _, rfl⟩) | h) | ⟨src, _, rfl⟩
  · exact kept_expireTimer p
  · exact kept_endRestore p
  · split at h
    · rw [List.mem_singleton.1 h]; exact kept_expireBudget
    · cases h
  · exact .of_same rfl rfl

theorem kept_microsecond : MapKept s (microsecond s) := by
  have hcount : SameStanding s (countAll s) := ⟨fun d => ⟨(s.desc d).outcome, rfl⟩, _, _, _, _, rfl⟩
  exact hcount.kept.trans (kept_foldl _ _ _ fun _ hf s => kept_expiries hf s)

theorem kept_partStep : MapKept s (partStep s) := by
  rcases partStep_cases s with ⟨_, h⟩ | ⟨_, ⟨_, h⟩ | ⟨e, _, n, h⟩⟩ <;> rw [h]
  · exact .refl
  · exact kept_microsecond
  · exact MapKept.trans (t := { s with freeDraws := n }) (.of_same rfl rfl) (kept_takeEvent e)

/-- Every step keeps the laws of the map. -/
theorem kept_step (h : step s = .next t) : MapKept s t := by
  unfold step at h
  split at h
  · cases h; exact kept_partStep
  · next c rest _ => exact MapKept.trans (t := { s with pending := rest }) (.of_same rfl rfl) (kept_exec c h)

/-- Settles O55: every step takes each descriptor as `MapKept` says. -/
theorem floorAndRegionsStayLawful : Obligations.FloorAndRegionsStayLawful :=
  ⟨fun _ _ hs h => (kept_step h).floor hs, fun _ _ hs h => (kept_step h).aligned hs,
    fun _ _ hs h => (kept_step h).distinct hs⟩

/-- Settles O56. -/
theorem engineAndMapStayInStep : Obligations.EngineAndMapStayInStep :=
  fun _ _ hs h => (kept_step h).fits hs

end Sys2Proof.Machine
end

section
/-! SUPPORT. The descriptor commands: how each is taken, refused or ended, and what the checks on the parameter words and
the routes say (R10, R13 to R19). -/

namespace Sys2Proof.Machine

variable {s t : State}

/-! ## Refusals -/

/-- What an owning block refuses it leaves as it was (R13). -/
def RefusesCleanly (act : Action) : Prop := ∀ s t r, act s = (t, some (.refused r)) → t = s

theorem refusesCleanly_refuse (r : Reason) : RefusesCleanly (refuse r) := fun _ _ _ h => (congrArg Prod.fst h).symm

theorem not_finished_refused {r : Reason} : finished s ≠ (t, some (.refused r)) := fun h => nomatch congrArg Prod.snd h

theorem not_done_refused {r : Reason} {ws : List Word} : ends (.done ws) s ≠ (t, some (.refused r)) :=
  fun h => nomatch congrArg Prod.snd h

theorem refusesCleanly_withIndex {n : Nat} {act : DescIdx → Action} (h : ∀ d, RefusesCleanly (act d)) :
    RefusesCleanly (withIndex n act) := fun s t r he => by
  unfold withIndex at he
  split at he
  · exact h _ s t r he
  · exact refusesCleanly_refuse _ s t r he

theorem refusesCleanly_withMonitor {n : Nat} {act : Fin 16 → Action} (h : ∀ m, RefusesCleanly (act m)) :
    RefusesCleanly (withMonitor n act) := fun s t r he => by
  unfold withMonitor at he
  split at he
  · exact h _ s t r he
  · exact refusesCleanly_refuse _ s t r he

theorem refusesCleanly_stage : RefusesCleanly stageAct := fun s => by
  refine refusesCleanly_withIndex (fun d s t r h => ?_) s
  split at h
  · exact refusesCleanly_refuse _ s t r h
  · split at h
    · exact refusesCleanly_refuse _ s t r h
    · split at h
      · exact refusesCleanly_refuse _ s t r h
      · exact absurd h not_finished_refused

theorem refusesCleanly_activate : RefusesCleanly activateAct := fun s => by
  refine refusesCleanly_withIndex (fun d s t r h => ?_) s
  split at h
  · exact refusesCleanly_refuse _ s t r h
  · exact absurd h not_finished_refused

theorem refusesCleanly_modify : RefusesCleanly modifyAct := fun s => by
  refine refusesCleanly_withIndex (fun d s t r h => ?_) s
  split at h
  · exact refusesCleanly_refuse _ s t r h
  · split at h
    · exact refusesCleanly_refuse _ s t r h
    · split at h
      · exact refusesCleanly_refuse _ s t r h
      · split at h
        · exact refusesCleanly_refuse _ s t r h
        · exact absurd h not_finished_refused

theorem refusesCleanly_retire : RefusesCleanly retireAct := fun s => by
  refine refusesCleanly_withIndex (fun d s t r h => ?_) s
  split at h
  · exact refusesCleanly_refuse _ s t r h
  · split at h
    · exact refusesCleanly_refuse _ s t r h
    · exact refusesCleanly_refuse _ s t r h
    · exact absurd h not_finished_refused
    · exact absurd h not_finished_refused
    · exact absurd h not_finished_refused

theorem refusesCleanly_probe : RefusesCleanly probeAct := fun s t r h => by
  unfold probeAct at h
  dsimp only at h
  split at h
  · exact refusesCleanly_refuse _ s t r h
  · split at h
    · split at h
      · exact refusesCleanly_refuse _ s t r h
      · exact absurd h not_done_refused
    · exact refusesCleanly_refuse _ s t r h

theorem refusesCleanly_queueMigration : RefusesCleanly queueMigrationAct := fun s t r h => by
  unfold queueMigrationAct at h
  split at h
  · exact refusesCleanly_refuse _ s t r h
  · split at h
    · split at h
      · exact refusesCleanly_refuse _ s t r h
      · exact absurd h not_done_refused
    · exact refusesCleanly_refuse _ s t r h

theorem refusesCleanly_cancelJob : RefusesCleanly cancelJobAct := fun s t r h => by
  unfold cancelJobAct at h
  dsimp only at h
  split at h
  · exact refusesCleanly_refuse _ s t r h
  · split at h
    · exact absurd h not_finished_refused
    · split at h
      · exact refusesCleanly_refuse _ s t r h
      · split at h
        · exact refusesCleanly_refuse _ s t r h
        · exact absurd h not_finished_refused

theorem refusesCleanly_queryJob : RefusesCleanly queryJobAct := fun s t r h => by
  unfold queryJobAct at h
  dsimp only at h
  split at h
  · exact refusesCleanly_refuse _ s t r h
  · split at h
    · exact absurd h not_done_refused
    · split at h
      · exact refusesCleanly_refuse _ s t r h
      · exact absurd h not_done_refused

theorem refusesCleanly_haltEngine : RefusesCleanly haltEngineAct := fun s t r h => by
  unfold haltEngineAct at h
  split at h
  · exact refusesCleanly_refuse _ s t r h
  · exact absurd h not_finished_refused

theorem refusesCleanly_resumeEngine : RefusesCleanly resumeEngineAct := fun s t r h => by
  unfold resumeEngineAct at h
  split at h
  · exact absurd h not_finished_refused
  · exact refusesCleanly_refuse _ s t r h

theorem refusesCleanly_setMonitor : RefusesCleanly setMonitorAct := fun s => by
  refine refusesCleanly_withMonitor (fun m s t r h => ?_) s
  split at h
  · exact refusesCleanly_refuse _ s t r h
  · split at h
    · split at h
      · exact refusesCleanly_refuse _ s t r h
      · split at h
        · exact refusesCleanly_refuse _ s t r h
        · exact absurd h not_finished_refused
    · exact refusesCleanly_refuse _ s t r h

theorem refusesCleanly_stopMonitor : RefusesCleanly stopMonitorAct := fun s => by
  refine refusesCleanly_withMonitor (fun m s t r h => ?_) s
  split at h
  · exact refusesCleanly_refuse _ s t r h
  · exact absurd h not_finished_refused

/-- RESTORE TARGET ends with no end yet when it is not refused (R98). -/
theorem refusesCleanly_restoreTarget : RefusesCleanly restoreTargetAct := fun s t r h => by
  unfold restoreTargetAct at h
  split at h
  · split at h
    · exact refusesCleanly_refuse _ s t r h
    · exact nomatch congrArg Prod.snd h
  · exact refusesCleanly_refuse _ s t r h

/-- Settles O11: each owner of a command code refuses cleanly. -/
theorem refusedCommandChangesNothing : Obligations.RefusedCommandChangesNothing := by
  intro code
  show RefusesCleanly (actionOf code)
  unfold actionOf
  split
  · exact refusesCleanly_stage
  · exact refusesCleanly_activate
  · exact refusesCleanly_modify
  · exact refusesCleanly_retire
  · exact fun s => refusesCleanly_withIndex (fun _ _ _ _ h => absurd h not_done_refused) s
  · exact refusesCleanly_probe
  · exact refusesCleanly_queueMigration
  · exact refusesCleanly_cancelJob
  · exact refusesCleanly_queryJob
  · exact refusesCleanly_haltEngine
  · exact refusesCleanly_resumeEngine
  · exact refusesCleanly_setMonitor
  · exact refusesCleanly_stopMonitor
  · exact fun s => refusesCleanly_withMonitor (fun _ _ _ _ h => absurd h not_done_refused) s
  · exact refusesCleanly_restoreTarget
  · exact fun _ _ _ h => absurd h not_finished_refused
  · exact refusesCleanly_refuse _

/-! ## How a command is taken -/

theorem exec_stage : exec .stage s = .next (writeCommand 0x01 stageAct s) := rfl
theorem exec_activate : exec .activate s = .next (writeCommand 0x02 activateAct s) := rfl
theorem exec_modify : exec .modify s = .next (writeCommand 0x03 modifyAct s) := rfl
theorem exec_retire : exec .retire s = .next (writeCommand 0x04 retireAct s) := rfl
theorem exec_readDescriptor : exec .readDescriptor s = .next (writeCommand 0x05 readDescriptorAct s) := rfl
theorem exec_probe : exec .probe s = .next (writeCommand 0x06 probeAct s) := rfl
theorem exec_queryJob : exec .queryJob s = .next (writeCommand 0x09 queryJobAct s) := rfl
theorem exec_readMonitor : exec .readMonitor s = .next (writeCommand 0x0E readMonitorAct s) := rfl
theorem exec_restart : exec .restart s = .next (writeCommand 0x10 restartAct s) := rfl

theorem withIndex_eq {n : Nat} {act : DescIdx → Action} {d : DescIdx} (h : n = d.val) :
    withIndex n act s = act d s := by
  subst h; exact dif_pos d.isLt

theorem withIndex_above {n : Nat} {act : DescIdx → Action} (h : 64 < n) : withIndex n act s = refuse .range s :=
  dif_neg (by omega)

/-- A command that its owner refuses ends so, and nothing else changes (R13, R170). -/
theorem writeCommand_refused {code : BitVec 8} {act : Action} {r : Reason} (hb : s.mgmt.busy = false)
    (h : act (latchCommand code s) = refuse r (latchCommand code s)) :
    writeCommand code act s = commandEnded code (.refused r) s := writeCommand_taken s hb h

/-- A command that its owner carries out ends DONE on the state that the owner leaves (R169). -/
theorem writeCommand_finished {code : BitVec 8} {act : Action} (hb : s.mgmt.busy = false)
    (h : act (latchCommand code s) = finished t) : writeCommand code act s = endCommand (.done []) t :=
  writeCommand_taken s hb h

/-- A change of the map commutes with the end of the command that makes it. -/
theorem endCommand_modDesc (e : CmdEnd) (d : DescIdx) (f : Desc → Desc) :
    endCommand e (s.modDesc d f) = (endCommand e s).modDesc d f := rfl

/-- Settles O10. -/
theorem descriptorCommandsRefuseTheirIndex : Obligations.DescriptorCommandsRefuseTheirIndex := by
  refine ⟨fun s hb h => ⟨?_, ?_, ?_, ?_, ?_⟩, fun s hb h hf => ?_⟩
  · exact congrArg _ (writeCommand_refused hb (withIndex_above h))
  · exact congrArg _ (writeCommand_refused hb (withIndex_above h))
  · exact congrArg _ (writeCommand_refused hb (withIndex_above h))
  · exact congrArg _ (writeCommand_refused hb (withIndex_above h))
  · exact congrArg _ (writeCommand_refused hb (withIndex_above h))
  · have hidx : paramIndex s.mgmt.param = floorIdx.val := h
    refine ⟨congrArg _ (writeCommand_refused hb ?_), congrArg _ (writeCommand_refused hb ?_),
      congrArg _ (writeCommand_refused hb ?_)⟩
    · exact (withIndex_eq hidx).trans (if_pos rfl)
    · refine (withIndex_eq hidx).trans ?_
      have : activateRefusal (latchCommand 0x02 s) floorIdx = some .state := by simp [activateRefusal, hf.1]
      simp only [this]
    · exact (withIndex_eq hidx).trans (if_pos rfl)

/-! ## The ranges of the parameter words (R14) -/

theorem bits_lt (w : Word) (lo len : Nat) : bits w lo len < 2 ^ len := Nat.mod_lt _ (Nat.two_pow_pos len)

theorem permOfCode_eq_none (c : Nat) : permOfCode c = none ↔ 3 ≤ c := by
  unfold permOfCode; split_ifs <;> simp <;> omega

theorem windowOf_eq_none (target base : Nat) : windowOf target base = none ↔ 3 < target ∨ 2 ^ 28 ≤ base := by
  unfold windowOf; split_ifs <;> simp <;> omega

theorem parseRead_eq_none (p : Vector Word 6) : parseRead p = none ↔
    (bits (look p 0) 24 2 ≠ 0 ∧ bits (look p 0) 24 2 ≠ 2) ∨
      (bits (look p 0) 24 2 = 2 ∧ (3 < bits (look p 5) 0 8 ∨ 2 ^ 28 ≤ (look p 2).toNat)) := by
  unfold parseRead
  dsimp only
  split_ifs with h0 h2
  · simp [h0]
  · simp [h2, windowOf_eq_none]
  · simp [h0, h2]

theorem parseWrite_eq_none (p : Vector Word 6) : parseWrite p = none ↔ bits (look p 0) 26 2 = 3 ∨
    (bits (look p 0) 26 2 = 2 ∧ (3 < bits (look p 5) 8 8 ∨ 2 ^ 28 ≤ (look p 3).toNat)) := by
  have hlt := bits_lt (look p 0) 26 2
  unfold parseWrite
  dsimp only
  split_ifs with h0 h1 h2
  · simp [h0]
  · simp [h1]
  · simp [h2, windowOf_eq_none]
  · simp only [true_iff]; omega

theorem parseMirror_eq_none (p : Vector Word 6) : parseMirror p = none ↔
    (bits (look p 0) 28 2 ≠ 2 ∧ bits (look p 0) 28 2 ≠ 3) ∨
      (bits (look p 0) 28 2 = 2 ∧ (3 < bits (look p 5) 16 8 ∨ 2 ^ 28 ≤ (look p 4).toNat)) := by
  unfold parseMirror
  dsimp only
  split_ifs with h2 h3
  · simp [h2, windowOf_eq_none]
  · simp [h3]
  · simp [h2, h3]

theorem parsePerms_eq_none (p : Vector Word 6) : parsePerms p = none ↔
    bits (look p 0) 16 2 = 3 ∨ bits (look p 0) 18 2 = 3 ∨ bits (look p 0) 20 2 = 3 ∨ bits (look p 0) 22 2 = 3 := by
  have key (lo : Nat) : permOfCode (bits (look p 0) lo 2) = none ↔ bits (look p 0) lo 2 = 3 := by
    rw [permOfCode_eq_none]
    have := bits_lt (look p 0) lo 2
    omega
  rw [← key 16, ← key 18, ← key 20, ← key 22]
  unfold parsePerms
  split
  · next h0 h1 h2 h3 => simp [h0, h1, h2, h3]
  · next h =>
    refine iff_of_true rfl ?_
    by_contra hall
    simp only [not_or, ← ne_eq, Option.ne_none_iff_exists'] at hall
    obtain ⟨⟨a, ha⟩, ⟨b, hb⟩, ⟨c, hc⟩, d, hd⟩ := hall
    exact h a b c d ha hb hc hd

theorem parseRoutes_eq_none (p : Vector Word 6) : parseRoutes p = none ↔
    parseRead p = none ∨ parseWrite p = none ∨ parseMirror p = none ∨ parsePerms p = none := by
  unfold parseRoutes
  split
  · next h0 h1 h2 h3 => simp [h0, h1, h2, h3]
  · next h =>
    refine iff_of_true rfl ?_
    by_contra hall
    simp only [not_or, ← ne_eq, Option.ne_none_iff_exists'] at hall
    obtain ⟨⟨a, ha⟩, ⟨b, hb⟩, ⟨c, hc⟩, d, hd⟩ := hall
    exact h a b c d ha hb hc hd

theorem parseStage_eq_none (p : Vector Word 6) : parseStage p = none ↔
    (2 ^ 28 ≤ (look p 1).toNat ∨ paramSize p < 12 ∨ 28 < paramSize p) ∨ parseRoutes p = none := by
  unfold parseStage
  split
  · next h => rw [Option.map_eq_none_iff]; exact ⟨.inr, fun k => k.resolve_left (by omega)⟩
  · next h => exact iff_of_true rfl (.inl (by omega))

/-! ## STAGE -/

/-- STAGE on an ordinary descriptor takes its checks in order (R15). -/
theorem stage_cases {d : DescIdx} (hb : s.mgmt.busy = false) (hd : paramIndex s.mgmt.param = d.val) (hfloor : d ≠ floorIdx) :
    ((s.desc d).state ≠ .free ∧ (s.desc d).state ≠ .staged →
      exec .stage s = .next (commandEnded 0x01 (.refused .state) s)) ∧
    (¬((s.desc d).state ≠ .free ∧ (s.desc d).state ≠ .staged) →
      (parseStage s.mgmt.param = none → exec .stage s = .next (commandEnded 0x01 (.refused .range) s)) ∧
      ∀ base size f, parseStage s.mgmt.param = some (base, size, f) →
        exec .stage s = .next ((commandEnded 0x01 (.done []) s).modDesc d fun x => x.staged base size f)) := by
  rw [exec_stage]
  refine ⟨fun hst => ?_, fun hst => ⟨fun hp => ?_, fun base size f hp => ?_⟩⟩
  · refine congrArg _ (writeCommand_refused hb ((withIndex_eq hd).trans ?_))
    rw [if_neg hfloor, latchCommand_desc, if_pos hst]
  · refine congrArg _ (writeCommand_refused hb ((withIndex_eq hd).trans ?_))
    rw [if_neg hfloor, latchCommand_desc, if_neg hst]
    simp only [latchCommand_latched, hp]
  · refine congrArg _ ((writeCommand_finished hb ((withIndex_eq hd).trans ?_)).trans (endCommand_modDesc ..))
    rw [if_neg hfloor, latchCommand_desc, if_neg hst]
    simp only [latchCommand_latched, hp]

/-- Settles O9. -/
theorem stageWritesWhatIsInRange : Obligations.StageWritesWhatIsInRange := by
  refine ⟨fun s d hb hd => ?_, fun p => ?_⟩
  · obtain ⟨hstate, hrest⟩ := stage_cases (d := ordIdx d) hb hd (ordIdx_ne_floor d)
    dsimp only
    split
    · next hst => exact hstate hst
    · next hst =>
      split
      · next hp => exact (hrest hst).1 hp
      · next hp => exact (hrest hst).2 _ _ _ hp
  · rw [parseStage_eq_none, parseRoutes_eq_none, parseRead_eq_none, parseWrite_eq_none, parseMirror_eq_none,
      parsePerms_eq_none]
    simp only [paramSize]
    exact iff_of_eq (by ac_rfl)

/-! ## The checks on routes (R16, R18) -/

theorem any_misaligned (l : List Window) : l.any (fun v => !v.aligned) = true ↔ ∃ w ∈ l, w.base.toNat % 4096 ≠ 0 := by
  simp [Window.aligned]

theorem any_outside (l : List Window) (size : Nat) :
    l.any (fun v => !v.fits size) = true ↔ ∃ w ∈ l, 2 ^ 28 < w.base.toNat + 2 ^ size := by
  simp [Window.fits]

theorem mirrorMisplaced_iff (w : WriteRoute) (m : Option Window) :
    mirrorMisplaced w m = true ↔ ∃ v, m = some v ∧ (w.win = none ∨ w.win = some v) := by
  cases m with
  | none => simp [mirrorMisplaced]
  | some v => cases w <;> simp [mirrorMisplaced, WriteRoute.win, eq_comm]

theorem conflicts_iff (d : DescIdx) : s.conflicts d = true ↔ ∃ e : Fin 64, ordIdx e ≠ d ∧
    ((s.desc (ordIdx e)).state = .live ∨ (s.desc (ordIdx e)).state = .migrating ∨
      (s.desc (ordIdx e)).state = .draining) ∧
    (s.desc (ordIdx e)).base = (s.desc d).base ∧ (s.desc (ordIdx e)).size = (s.desc d).size := by
  simp [State.conflicts, mem_ordinaries, Desc.holdsRegion, Desc.inUse, and_assoc, or_assoc]

section
variable {r : ReadRoute} {w : WriteRoute} {m : Option Window} {size : Nat}

theorem routesRefusal_align (h : ∃ v ∈ routeWindows r w m, v.base.toNat % 4096 ≠ 0) :
    routesRefusal r w m size = some .align := if_pos ((any_misaligned _).2 h)

theorem routesRefusal_range (hal : ¬∃ v ∈ routeWindows r w m, v.base.toNat % 4096 ≠ 0)
    (h : ∃ v ∈ routeWindows r w m, 2 ^ 28 < v.base.toNat + 2 ^ size) : routesRefusal r w m size = some .range := by
  rw [routesRefusal, if_neg (hal ∘ (any_misaligned _).1), if_pos ((any_outside _ _).2 h)]

theorem routesRefusal_route (hal : ¬∃ v ∈ routeWindows r w m, v.base.toNat % 4096 ≠ 0)
    (hrange : ¬∃ v ∈ routeWindows r w m, 2 ^ 28 < v.base.toNat + 2 ^ size)
    (h : ∃ v, m = some v ∧ (w.win = none ∨ w.win = some v)) : routesRefusal r w m size = some .route := by
  rw [routesRefusal, if_neg (hal ∘ (any_misaligned _).1), if_neg (hrange ∘ (any_outside _ _).1),
    if_pos ((mirrorMisplaced_iff _ _).2 h)]

theorem routesRefusal_none (hal : ¬∃ v ∈ routeWindows r w m, v.base.toNat % 4096 ≠ 0)
    (hrange : ¬∃ v ∈ routeWindows r w m, 2 ^ 28 < v.base.toNat + 2 ^ size)
    (h : ¬∃ v, m = some v ∧ (w.win = none ∨ w.win = some v)) : routesRefusal r w m size = none := by
  rw [routesRefusal, if_neg (hal ∘ (any_misaligned _).1), if_neg (hrange ∘ (any_outside _ _).1),
    if_neg (h ∘ (mirrorMisplaced_iff _ _).1)]

end

/-! ## ACTIVATE -/

theorem activate_refused {d : DescIdx} {r : Reason} (hb : s.mgmt.busy = false) (hd : paramIndex s.mgmt.param = d.val)
    (h : activateRefusal s d = some r) : exec .activate s = .next (commandEnded 0x02 (.refused r) s) := by
  refine congrArg _ (writeCommand_refused hb ((withIndex_eq hd).trans ?_))
  have : activateRefusal (latchCommand 0x02 s) d = some r := h
  simp only [this]

theorem activate_done {d : DescIdx} (hb : s.mgmt.busy = false) (hd : paramIndex s.mgmt.param = d.val)
    (h : activateRefusal s d = none) :
    exec .activate s = .next ((commandEnded 0x02 (.done []) s).modDesc d Desc.activated) := by
  rw [exec_activate]
  refine congrArg _ ((writeCommand_finished hb ((withIndex_eq hd).trans ?_)).trans (endCommand_modDesc ..))
  have : activateRefusal (latchCommand 0x02 s) d = none := h
  simp only [this]
  rfl

/-- Past STATE and the region's own alignment, ACTIVATE checks the routes and then for a conflict (R16). -/
theorem activateRefusal_staged {d : DescIdx} (hst : (s.desc d).state = .staged)
    (hal : (s.desc d).base.toNat % 2 ^ (s.desc d).size = 0) : activateRefusal s d =
      (routesRefusal (s.desc d).read (s.desc d).write (s.desc d).mirror (s.desc d).size).or
        (if s.conflicts d then some .conflict else none) := by
  unfold activateRefusal
  simp only [hst, hal, ne_eq, not_true, if_false]
  split
  · next h => rw [h]; rfl
  · next h => rw [h]; rfl

/-- Settles O12. -/
theorem activateChecksThenMakesLive : Obligations.ActivateChecksThenMakesLive := by
  intro s d hb hd x
  split_ifs with hst hal hrange hroute hconf
  · exact activate_refused hb hd (if_pos hst)
  · refine activate_refused hb hd ?_
    by_cases hbase : x.base.toNat % 2 ^ x.size = 0
    · rw [activateRefusal_staged (not_not.1 hst) hbase, routesRefusal_align (hal.resolve_left (not_not.2 hbase))]; rfl
    · exact (if_neg hst).trans (if_pos hbase)
  all_goals
    obtain ⟨hbase, hwin⟩ : x.base.toNat % 2 ^ x.size = 0 ∧ ¬∃ w ∈ x.windows, w.base.toNat % 4096 ≠ 0 :=
      ⟨not_not.1 (not_or.1 hal).1, (not_or.1 hal).2⟩
  · refine activate_refused hb hd ?_
    rw [activateRefusal_staged (not_not.1 hst) hbase, routesRefusal_range hwin hrange]; rfl
  · refine activate_refused hb hd ?_
    rw [activateRefusal_staged (not_not.1 hst) hbase, routesRefusal_route hwin hrange hroute]; rfl
  · refine activate_refused hb hd ?_
    rw [activateRefusal_staged (not_not.1 hst) hbase, routesRefusal_none hwin hrange hroute,
      if_pos ((conflicts_iff d).2 hconf)]; rfl
  · refine activate_done hb hd ?_
    rw [activateRefusal_staged (not_not.1 hst) hbase, routesRefusal_none hwin hrange hroute,
      if_neg (hconf ∘ (conflicts_iff d).1)]; rfl

/-! ## MODIFY -/

/-- Two changes of one descriptor are one. -/
theorem modDesc_modDesc (d : DescIdx) (f g : Desc → Desc) : (s.modDesc d f).modDesc d g = s.modDesc d (g ∘ f) := by
  simp [State.modDesc, State.desc]

/-- A switch that starts on a LIVE descriptor (R52, R56). -/
theorem startSwitch_live {d : DescIdx} (hlive : (s.desc d).state = .live) (hsw : (s.desc d).switching = false) :
    startSwitch d s = s.modDesc d fun x =>
      { x with
        gen := x.gen + 1, switching := decide (x.cur ≠ 0), cur := 0, prev := if x.cur = 0 then x.prev else x.cur } := by
  unfold startSwitch State.modDesc
  dsimp only
  split
  · next hc => simp [hlive, hsw, hc]
  · next hc => simp [hc]

/-- MODIFY takes its checks in order (R18). -/
theorem modify_cases {d : DescIdx} (hb : s.mgmt.busy = false) (hd : paramIndex s.mgmt.param = d.val) :
    ((s.desc d).state ≠ .live → exec .modify s = .next (commandEnded 0x03 (.refused .state) s)) ∧
    ((s.desc d).state = .live →
      ((s.desc d).switching = true → exec .modify s = .next (commandEnded 0x03 (.refused .busy) s)) ∧
      ((s.desc d).switching = false →
        (parseRoutes s.mgmt.param = none → exec .modify s = .next (commandEnded 0x03 (.refused .range) s)) ∧
        ∀ f, parseRoutes s.mgmt.param = some f →
          (∀ r, routesRefusal f.read f.write f.mirror (s.desc d).size = some r →
            exec .modify s = .next (commandEnded 0x03 (.refused r) s)) ∧
          (routesRefusal f.read f.write f.mirror (s.desc d).size = none →
            exec .modify s = .next ((commandEnded 0x03 (.done []) s).modDesc d fun x =>
              { x.modified f with
                gen := x.gen + 1, switching := decide (x.cur ≠ 0), cur := 0
                prev := if x.cur = 0 then x.prev else x.cur })))) := by
  rw [exec_modify]
  refine ⟨fun hst => ?_, fun hst => ⟨fun hsw => ?_, fun hsw => ⟨fun hp => ?_, fun f hp => ⟨fun r hr => ?_, fun hr => ?_⟩⟩⟩⟩
  · refine congrArg _ (writeCommand_refused hb ((withIndex_eq hd).trans ?_))
    exact if_pos hst
  · refine congrArg _ (writeCommand_refused hb ((withIndex_eq hd).trans ?_))
    simp only [latchCommand_desc, hst, hsw, ne_eq, not_true, if_false, if_true]
  · refine congrArg _ (writeCommand_refused hb ((withIndex_eq hd).trans ?_))
    simp only [latchCommand_desc, latchCommand_latched, hst, hsw, hp, ne_eq, not_true, if_false, Bool.false_eq_true]
  · refine congrArg _ (writeCommand_refused hb ((withIndex_eq hd).trans ?_))
    simp only [latchCommand_desc, latchCommand_latched, hst, hsw, hp, hr, ne_eq, not_true, if_false, Bool.false_eq_true]
  · refine congrArg _ ((writeCommand_finished hb
      (t := (latchCommand 0x03 s).modDesc d _) ((withIndex_eq hd).trans ?_)).trans (endCommand_modDesc ..))
    simp only [latchCommand_desc, latchCommand_latched, hst, hsw, hp, hr, ne_eq, not_true, if_false, Bool.false_eq_true]
    have hx : ((latchCommand 0x03 s).modDesc d fun x => x.modified f).desc d = (s.desc d).modified f := by simp
    rw [startSwitch_live (by rw [hx]; exact hst) (by rw [hx]; exact hsw)]
    rw [modDesc_modDesc]
    rfl

/-- Settles O13. -/
theorem modifyChecksThenSwitches : Obligations.ModifyChecksThenSwitches := by
  intro s d hb hd x
  obtain ⟨hstate, hlive⟩ := modify_cases hb hd
  split_ifs with hst hsw
  · exact hstate hst
  · exact (hlive (not_not.1 hst)).1 hsw
  · obtain ⟨hnone, hsome⟩ := (hlive (not_not.1 hst)).2 (by simpa using hsw)
    split
    · next hp => exact hnone hp
    · next f hp =>
      obtain ⟨hrefused, hdone⟩ := hsome f hp
      split_ifs with hal hrange hroute
      · exact hrefused _ (routesRefusal_align hal)
      · exact hrefused _ (routesRefusal_range hal hrange)
      · exact hrefused _ (routesRefusal_route hal hrange hroute)
      · exact hdone (routesRefusal_none hal hrange hroute)

/-! ## Translation -/

/-- The place of a target address: base plus offset, in target space (R3). -/
theorem translate_toNat {x : Desc} {w : Window} {a : Addr} (ha : x.contains a = true) (hw : w.fits x.size = true) :
    (x.translate w a).toNat = w.base.toNat + (a.toNat - x.base.toNat) ∧ a.toNat - x.base.toNat < 2 ^ x.size := by
  simp only [Desc.contains, Bool.and_eq_true, decide_eq_true_eq] at ha
  simp only [Window.fits, decide_eq_true_eq] at hw
  obtain ⟨hlo, hhi⟩ := ha
  have hsub : (a - x.base).toNat = a.toNat - x.base.toNat := BitVec.toNat_sub_of_le hlo
  have hoff : a.toNat - x.base.toNat < 2 ^ x.size := by omega
  refine ⟨?_, hoff⟩
  rw [Desc.translate, BitVec.toNat_add, hsub]
  exact Nat.mod_eq_of_lt (by omega)

/-- Settles O18: a region and a window are aligned to lines, so an offset keeps its place in its line. -/
theorem translationStaysInTargetSpace : Obligations.TranslationStaysInTargetSpace := by
  intro x w a ha hw hal hsize hbase
  obtain ⟨hto, hoff⟩ := translate_toNat ha hw
  simp only [Window.aligned, decide_eq_true_eq] at hal
  simp only [Desc.contains, Bool.and_eq_true, decide_eq_true_eq] at ha
  have hpow : 2 ^ x.size = 64 * 2 ^ (x.size - 6) := by
    rw [show (64 : ℕ) = 2 ^ 6 from rfl, ← pow_add]; congr 1; omega
  have hline : x.base.toNat % 64 = 0 := Nat.mod_eq_zero_of_dvd
    (Dvd.dvd.trans ⟨2 ^ (x.size - 6), hpow⟩ (Nat.dvd_of_mod_eq_zero hbase))
  refine ⟨hto, by rw [hto]; omega, ?_⟩
  rw [Desc.lineOf, Desc.lineCount, Nat.div_lt_iff_lt_mul (by decide), mul_comm, ← hpow]
  exact hoff

end Sys2Proof.Machine
end

section
/-! SUPPORT. RESTART: what the monitors' requests leave alone before it, and what it does to every job (R118, R180). -/

namespace Sys2Proof.Machine

variable {s t : State}

/-! ## The monitors' requests beside the Management Port

A command has been latched when the monitors finish their requests; that makes no difference to them. -/

theorem endQueued_modMgmt (f : Mgmt → Mgmt) (j : Job) (e : Ending) :
    endQueued j e (s.modMgmt f) = (endQueued j e s).modMgmt f := by
  unfold endQueued endNotice
  cases j.origin <;> rfl

theorem monitorEnqueue_modMgmt (f : Mgmt → Mgmt) (m : Fin 16) (w : Template) (o : Origin) :
    monitorEnqueue m w o (s.modMgmt f) = ((monitorEnqueue m w o s).1.modMgmt f, (monitorEnqueue m w o s).2) := by
  have h : enqueueRefusal (s.modMgmt f) ((s.modMgmt f).mon m).subject w.dest = enqueueRefusal s (s.mon m).subject w.dest :=
    rfl
  unfold monitorEnqueue
  rw [h]
  split <;> rfl

theorem takeIdleAsk_modMgmt (f : Mgmt → Mgmt) (m : Fin 16) :
    takeIdleAsk m (s.modMgmt f) = (takeIdleAsk m s).modMgmt f := by
  unfold takeIdleAsk
  rw [State.modMgmt_mon]
  split
  · rfl
  · rw [monitorEnqueue_modMgmt]
    rcases monitorEnqueue m _ _ s with ⟨t, _ | id⟩ <;> rfl

theorem takeWakeAsk_modMgmt (f : Mgmt → Mgmt) (m : Fin 16) :
    takeWakeAsk m (s.modMgmt f) = (takeWakeAsk m s).modMgmt f := by
  unfold takeWakeAsk
  rw [State.modMgmt_mon]
  split
  · rfl
  · rw [monitorEnqueue_modMgmt]

theorem takeWithdrawal_modMgmt (f : Mgmt → Mgmt) (m : Fin 16) (id : BitVec 8) :
    takeWithdrawal m id (s.modMgmt f) = (takeWithdrawal m id s).modMgmt f := by
  have h : queuedJob (s.modMgmt f) id = queuedJob s id := rfl
  unfold takeWithdrawal
  rw [h]
  split
  · rw [endQueued_modMgmt]; rfl
  · rfl

theorem takeAsk_modMgmt (f : Mgmt → Mgmt) (m : Fin 16) : takeAsk m (s.modMgmt f) = (takeAsk m s).modMgmt f := by
  have h (g : Monitor → Monitor) : (s.modMgmt f).modMon m g = (s.modMon m g).modMgmt f := rfl
  unfold takeAsk
  dsimp only
  rw [State.modMgmt_mon, h]
  split
  · rfl
  · exact takeIdleAsk_modMgmt f m
  · exact takeWithdrawal_modMgmt f m _
  · exact takeWakeAsk_modMgmt f m

theorem finishAll_modMgmt (f : Mgmt → Mgmt) (sel : Monitor → Bool) :
    finishAll sel (s.modMgmt f) = (finishAll sel s).modMgmt f := by
  have key : ∀ (ms : List (Fin 16)) (s : State), ms.foldl (fun s m => finishAsks m s) (s.modMgmt f) =
      (ms.foldl (fun s m => finishAsks m s) s).modMgmt f := by
    intro ms
    induction ms with
    | nil => intro s; rfl
    | cons m ms ih =>
      intro s
      rw [List.foldl_cons, List.foldl_cons, ← ih, finishAsks, finishAsks, takeAsk_modMgmt, takeAsk_modMgmt]
  unfold finishAll
  dsimp only
  rw [← key]
  rfl

/-- With no request on its way nothing is to finish. -/
theorem finishAll_eq_self {sel : Monitor → Bool} (h : ∀ m, sel (s.mon m) = true → (s.mon m).ask = none) :
    finishAll sel s = s := by
  have hnone : (monitors.filter fun m => sel (s.mon m) && (s.mon m).ask.isSome) = [] := by
    rw [List.filter_eq_nil_iff]
    intro m _ hm
    rw [Bool.and_eq_true] at hm
    rw [h m hm.1] at hm
    cases hm.2
  unfold finishAll
  rw [hnone]
  rfl

/-! ## The monitors' requests beside the event routes -/

theorem endNotice_route (j : Job) : (endNotice j s).evc.route = s.evc.route := by rw [endNotice_evc]

theorem endQueued_route (j : Job) (e : Ending) : (endQueued j e s).evc.route = s.evc.route := by
  rw [endQueued, raise_route, endNotice_route]; rfl

theorem monitorEnqueue_route (m : Fin 16) (w : Template) (o : Origin) :
    (monitorEnqueue m w o s).1.evc.route = s.evc.route := by
  unfold monitorEnqueue; split <;> rfl

theorem takeAsk_route (m : Fin 16) : (takeAsk m s).evc.route = s.evc.route := by
  unfold takeAsk
  dsimp only
  split
  · rfl
  · unfold takeIdleAsk
    split
    · rfl
    · next w _ =>
      have h := monitorEnqueue_route (s := s.modMon m fun x => { x with ask := none }) m w (.monitorIdle m)
      split
      · next he => rw [he] at h; exact h
      · next he => rw [he] at h; exact h
  · unfold takeWithdrawal
    split
    · exact endQueued_route _ _
    · rfl
  · unfold takeWakeAsk
    split
    · rfl
    · exact monitorEnqueue_route ..

theorem finishAll_route (sel : Monitor → Bool) : (finishAll sel s).evc.route = s.evc.route := by
  have key : ∀ (ms : List (Fin 16)) (s : State),
      (ms.foldl (fun s m => finishAsks m s) s).evc.route = s.evc.route := by
    intro ms
    induction ms with
    | nil => intro s; rfl
    | cons m ms ih => intro s; rw [List.foldl_cons, ih, finishAsks, takeAsk_route, takeAsk_route]
  obtain ⟨ms, n, h⟩ := finishAll_foldl sel s
  rw [h, key]

/-! ## RESTART -/

/-- What a command's end writes into the window depends on the window alone. -/
theorem endCommand_mgmt (e : CmdEnd) (h : t.mgmt = s.mgmt) : (endCommand e t).mgmt = (endCommand e s).mgmt := by
  unfold endCommand
  simp only [raise_mgmt, State.modMgmt_mgmt, h]

/-- Every job of a list ends with one outcome (R118). -/
theorem writeOutcomes_desc (o : LastOutcome) (l : List Job) (d : DescIdx) :
    (l.foldl (fun s j => writeOutcome (ordIdx j.desc) o s) s).desc d =
      { s.desc d with
        outcome := if l.any (fun j => decide (ordIdx j.desc = d)) then o else (s.desc d).outcome } := by
  induction l generalizing s with
  | nil => rfl
  | cons j l ih =>
    rw [List.foldl_cons, ih, writeOutcome, State.modDesc_desc, List.any_cons]
    by_cases hd : d = ordIdx j.desc
    · subst hd; simp
    · simp [hd, Ne.symm hd]

/-- The writing of outcomes touches the map alone. -/
theorem writeOutcomes_frame (o : LastOutcome) (l : List Job) :
    ∃ m, l.foldl (fun s j => writeOutcome (ordIdx j.desc) o s) s = { s with map := m } := by
  induction l generalizing s with
  | nil => exact ⟨s.map, rfl⟩
  | cons j l ih =>
    obtain ⟨m, hm⟩ := ih (s := writeOutcome (ordIdx j.desc) o s)
    exact ⟨m, hm⟩

/-- The end of the active job at RESTART touches the map and the ports alone, and the ports by a release (R118). -/
theorem restartActive_frame : ∃ m, restartActive s = { s with map := m, ports := (restartActive s).ports } := by
  unfold restartActive
  split
  · exact ⟨s.map, rfl⟩
  · exact ⟨_, rfl⟩

theorem restartActive_port (i : Fin 4) : (restartActive s).port i =
    match s.eng.active with
    | none => s.port i
    | some j => releasePort (Hold.onDescLine (ordIdx j.desc)) (s.port i) := by
  unfold restartActive
  rcases s.eng.active with _ | j
  · rfl
  · rw [release_port]; rfl

/-- RESTART ends the jobs in the map, then the active one, and leaves the engine's record without a job (R118). -/
theorem restartEngine_eq : ∃ m, restartEngine s =
    (restartActive { s with map := m }).modEng (fun g => g.restarted s.mgmt.budget) ∧
      ∀ d, look m d = { s.desc d with
        outcome := if s.eng.allJobs.any (fun j => decide (ordIdx j.desc = d)) then .aborted .restart
          else (s.desc d).outcome } := by
  obtain ⟨m, hm⟩ := writeOutcomes_frame (s := s) (.aborted .restart) s.eng.allJobs
  refine ⟨m, ?_, fun d => ?_⟩
  · unfold restartEngine; rw [hm]
  · rw [← writeOutcomes_desc, hm]; rfl

theorem restartEngine_desc {d : DescIdx} (hmig : (s.desc d).state = .migrating → s.eng.copies d) :
    (restartEngine s).desc d =
      { s.desc d with
        state := if (s.desc d).state = .migrating then .live else (s.desc d).state
        outcome := if s.eng.allJobs.any (fun j => decide (ordIdx j.desc = d)) then .aborted .restart
          else (s.desc d).outcome } := by
  obtain ⟨m, hm, hdesc⟩ := restartEngine_eq (s := s)
  rw [hm, State.modEng_desc, restartActive_desc, show State.desc { s with map := m } d = look m d from rfl, hdesc]
  by_cases h : (s.desc d).state = .migrating
  · obtain ⟨hst, j, hj, hjd⟩ := hmig h
    simp [h, hst, hj, hjd]
  · simp [h]

theorem restartEngine_port (i : Fin 4) : (restartEngine s).port i =
    match s.eng.active with
    | none => s.port i
    | some j => releasePort (Hold.onDescLine (ordIdx j.desc)) (s.port i) := by
  obtain ⟨m, hm, _⟩ := restartEngine_eq (s := s)
  rw [hm, State.modEng_port, restartActive_port]
  rfl

/-- RESTART of the engine leaves every block but the map, the ports and the engine alone. -/
theorem restartEngine_frame : ∃ m ps, restartEngine s =
    { s with map := m, ports := ps, eng := s.eng.restarted s.mgmt.budget } := by
  obtain ⟨m, hm, _⟩ := restartEngine_eq (s := s)
  obtain ⟨m', hm'⟩ := restartActive_frame (s := { s with map := m })
  rw [hm, hm']
  exact ⟨_, _, rfl⟩

theorem restartEngine_eng : (restartEngine s).eng = s.eng.restarted s.mgmt.budget := by
  obtain ⟨m, ps, h⟩ := restartEngine_frame (s := s); rw [h]

theorem restartEngine_mgmt : (restartEngine s).mgmt = s.mgmt := by
  obtain ⟨m, ps, h⟩ := restartEngine_frame (s := s); rw [h]

theorem restartEngine_evc : (restartEngine s).evc = s.evc := by
  obtain ⟨m, ps, h⟩ := restartEngine_frame (s := s); rw [h]

theorem surround_restartEngine : SameSurround s (restartEngine s) := by
  obtain ⟨m, ps, h⟩ := restartEngine_frame (s := s)
  rw [h]
  exact ⟨rfl, rfl, rfl, rfl, rfl, rfl⟩

/-- Past the engine and the map, RESTART clears the monitors and the flags, and ends (R180). -/
def afterRestart (s : State) : State :=
  endCommand (.done []) (clearAllPending { s with mons := Vector.replicate 16 Monitor.cleared })

/-- RESTART in its three parts: the requests of the monitors, the engine and the map, the monitors and the flags. -/
theorem restart_done (hb : s.mgmt.busy = false) : exec .restart s =
    .next (afterRestart (restartEngine (latchCommand 0x10 (finishAll (fun _ => true) s)))) := by
  have h : finishAll (fun _ => true) (latchCommand 0x10 s) = latchCommand 0x10 (finishAll (fun _ => true) s) :=
    finishAll_modMgmt _ _
  rw [exec_restart, ← h]
  exact congrArg _ (writeCommand_finished hb rfl)

theorem latchCommand_mgmt {code : BitVec 8} (h : t.mgmt = s.mgmt) :
    (latchCommand code t).mgmt = (latchCommand code s).mgmt := by
  simp only [latchCommand, State.modMgmt_mgmt, h]

theorem afterRestart_isPending (c : EventClass) : (afterRestart s).isPending c = decide (c = .cmdDone) := by
  have hclear (u : State) : (clearAllPending u).isPending c = false := look_replicate _ _
  rw [afterRestart, endCommand, isPending_raise]
  by_cases h : c = .cmdDone
  · simp [h]
  · rw [if_neg h, decide_eq_false h]; exact hclear _

theorem afterRestart_mon (m : Fin 16) : (afterRestart s).mon m = Monitor.cleared := look_replicate _ _

@[simp] theorem afterRestart_eng : (afterRestart s).eng = s.eng := rfl
@[simp] theorem afterRestart_desc (d : DescIdx) : (afterRestart s).desc d = s.desc d := rfl
@[simp] theorem afterRestart_port (i : Fin 4) : (afterRestart s).port i = s.port i := rfl
@[simp] theorem afterRestart_route : (afterRestart s).evc.route = s.evc.route := rfl
@[simp] theorem afterRestart_tports : (afterRestart s).tports = s.tports := rfl
@[simp] theorem afterRestart_ticks : (afterRestart s).ticks = s.ticks := rfl
@[simp] theorem afterRestart_arrivals : (afterRestart s).arrivals = s.arrivals := rfl
@[simp] theorem afterRestart_resetAsserted : (afterRestart s).resetAsserted = s.resetAsserted := rfl
theorem afterRestart_mgmt : (afterRestart s).mgmt = (endCommand (.done []) s).mgmt := rfl

/-- A MIGRATING descriptor is the one the engine copies (R110). -/
theorem EngineFits.copies_of_migrating (h : EngineFits s) {d : DescIdx} (hm : (s.desc d).state = .migrating) :
    s.eng.copies d := by
  obtain ⟨_, _, _, ⟨hfloor, hmig⟩, _⟩ := h
  rcases idx_cases d with rfl | ⟨e, rfl⟩
  · exact absurd hm hfloor
  · exact (copies_ordIdx _ e).2 ((hmig e).1 hm)

theorem port_of_ports (h : t.ports = s.ports) (i : Fin 4) : t.port i = s.port i := congrArg (fun ps => look ps i) h

/-- Settles O8: the monitors' requests leave the engine's job and every descriptor's state as they stand
(`SameStanding`), and RESTART of the engine finds MIGRATING the descriptor of its job alone. -/
theorem restartEndsEveryJob : Obligations.RestartEndsEveryJob := by
  intro s hb hfits u
  refine ⟨fun hask => finishAll_eq_self fun m _ => hask m, _, restart_done hb, ?_⟩
  have hst : SameStanding s u := standing_finishAll _
  have hsur : SameSurround s u := surround_finishAll _
  have hports : u.ports = s.ports := finishAll_ports _
  have hroute : u.evc.route = s.evc.route := finishAll_route _
  rw [show finishAll (fun _ => true) s = u from rfl]
  clear_value u
  obtain ⟨q, n, c, b, heng⟩ := hst.eng
  obtain ⟨htp, hmg, hti, har, hra, -⟩ := hsur
  obtain ⟨rtp, rmg, rti, rar, rra, -⟩ := surround_restartEngine (s := latchCommand 0x10 u)
  refine ⟨?_, ?_, fun d => ?_, fun m => ?_, afterRestart_isPending, ?_, ?_, ?_, ?_, ?_, fun i => ?_⟩
  · rw [afterRestart_mgmt]
    exact endCommand_mgmt _ (rmg.trans (latchCommand_mgmt hmg))
  · rw [afterRestart_eng, restartEngine_eng, latchCommand_eng, latchCommand_budget, hmg, Engine.restarted, heng]
    simp
  · obtain ⟨o, ho⟩ := hst.desc d
    have hstate : (u.desc d).state = (s.desc d).state := by rw [ho]
    have hmig : (u.desc d).state = .migrating → u.eng.copies d := fun h => by
      rw [heng]; exact hfits.copies_of_migrating (hstate ▸ h)
    have hjobs : u.eng.allJobs.any (fun j => decide (ordIdx j.desc = d)) =
        u.eng.jobs.any (fun j => decide (ordIdx j.desc = d)) := by
      simp only [Engine.allJobs, Engine.jobs, List.any_append, Bool.or_comm]
    rw [afterRestart_desc, restartEngine_desc (s := latchCommand 0x10 u) hmig, latchCommand_desc, latchCommand_eng, hjobs,
      hstate]
  · exact afterRestart_mon m
  · rw [afterRestart_route, restartEngine_evc]; exact hroute
  · rw [afterRestart_tports, rtp]; exact htp
  · rw [afterRestart_ticks, rti]; exact hti
  · rw [afterRestart_arrivals, rar]; exact har
  · rw [afterRestart_resetAsserted, rra]; exact hra
  · have hact : u.eng.active = s.eng.active := by rw [heng]
    have hport := restartEngine_port (s := latchCommand 0x10 u) i
    rw [latchCommand_eng, latchCommand_port, hact, port_of_ports hports] at hport
    exact (afterRestart_port i).trans hport

end Sys2Proof.Machine
end

section
/-! SUPPORT. RETIRE: how a descriptor is taken out of use (R20 to R22, R110, R155). -/

namespace Sys2Proof.Machine

variable {s t u c : State} {d : DescIdx}

/-! ## The end of the active job, and of a drain, on the other blocks -/

theorem endActive_isPending (e : Ending) {j : Job} (h : s.eng.active = some j) (k : EventClass) :
    (endActive e s).isPending k = true ↔ s.isPending k = true ∨ k = e.event := by
  have hk : (endActive e s).isPending k = (raise e.event s).isPending k := by
    simp [endActive, h, State.isPending, raise]
  rw [hk, isPending_raise]
  split
  · next he => simp [he]
  · next he => simp [he]

theorem endActive_route (e : Ending) : (endActive e s).evc.route = s.evc.route := by
  unfold endActive
  split
  · rfl
  · rw [State.modEng_evc, raise_route, release_evc, endNotice_evc]; rfl

theorem endActive_port (e : Ending) {j : Job} (h : s.eng.active = some j) (i : Fin 4) :
    (endActive e s).port i = releasePort (Hold.onDescLine (ordIdx j.desc)) (s.port i) := by
  rw [port_of_ports (endActive_ports s e h), release_port]

theorem surround_leaveUse : SameSurround s (leaveUse d s) := by
  unfold leaveUse
  dsimp only
  split
  · exact SameSurround.trans (.refl : SameSurround s _) (surround_endActive _)
  · exact .refl

section
variable (d)

theorem drainEnd_eng : (drainEnd d s).eng = s.eng := by unfold drainEnd; split <;> rfl
theorem drainEnd_ports : (drainEnd d s).ports = s.ports := by unfold drainEnd; split <;> rfl
theorem drainEnd_mon (m : Fin 16) : (drainEnd d s).mon m = s.mon m := by unfold drainEnd; split <;> rfl
theorem drainEnd_route : (drainEnd d s).evc.route = s.evc.route := by unfold drainEnd; split <;> rfl

end

theorem drainEnd_desc_ne {e : DescIdx} (h : e ≠ d) : (drainEnd d s).desc e = s.desc e := by
  unfold drainEnd
  split
  · rw [raise_desc, State.modDesc_desc_ne _ _ h]
  · rfl

/-- A DRAINING descriptor with both counts zero becomes FREE (R60). -/
theorem drainEnd_desc (h : (s.desc d).state = .draining) : (drainEnd d s).desc d =
    if (s.desc d).cur = 0 ∧ (s.desc d).prev = 0 then (s.desc d).freed else s.desc d := by
  unfold drainEnd
  split
  · next hc => rw [raise_desc, State.modDesc_desc_self, if_pos hc.2]
  · next hc => rw [if_neg fun hz => hc ⟨h, hz⟩]

theorem drainEnd_isPending (h : (s.desc d).state = .draining) (k : EventClass) : (drainEnd d s).isPending k = true ↔
    s.isPending k = true ∨ (k = .retired ∧ (s.desc d).cur = 0 ∧ (s.desc d).prev = 0) := by
  unfold drainEnd
  split
  · next hc =>
    rw [isPending_raise]
    split
    · next hk => simp [hk, hc.2]
    · next hk => simp [hk]; rfl
  · next hc => exact ⟨.inl, fun hk => hk.resolve_right fun ⟨_, hz⟩ => hc ⟨h, hz⟩⟩

/-! ## Releases -/

/-- A slot has been released and waits for its resolution (R77). -/
def IPort.waits (p : IPort) (k : Fin 8) : Prop := (look p.slots k).released = true ∧ k ∈ p.resQueue

theorem releasePort_slot (sel : Hold → Bool) (p : IPort) (k : Fin 8) : look (releasePort sel p).slots k =
    if (look p.slots k).named sel then { look p.slots k with released := true } else look p.slots k := by
  simp [releasePort]

theorem waits_of_named {sel : Hold → Bool} {p : IPort} {k : Fin 8} (h : (look p.slots k).named sel = true) :
    (releasePort sel p).waits k :=
  ⟨by rw [releasePort_slot, if_pos h], (mem_releasePort_resQueue sel p k).2 (.inr h)⟩

theorem IPort.waits.release {p : IPort} {k : Fin 8} (h : p.waits k) (sel : Hold → Bool) : (releasePort sel p).waits k := by
  refine ⟨?_, (mem_releasePort_resQueue sel p k).2 (.inl h.2)⟩
  rw [releasePort_slot]
  split
  · rfl
  · exact h.1

/-- A slot that one release names waits after two, whichever comes first. -/
theorem waits_of_named_later {sel sel' : Hold → Bool} {p : IPort} {k : Fin 8} (h : (look p.slots k).named sel = true) :
    (releasePort sel (releasePort sel' p)).waits k := by
  by_cases h' : (look p.slots k).named sel' = true
  · exact (waits_of_named h').release sel
  · refine waits_of_named ?_
    rw [releasePort_slot, if_neg h']
    exact h

/-! ## Leaving use -/

/-- The transactions held on the descriptor's switch are released, if it was switching (R22). -/
def releaseSwitch (d : DescIdx) (switching : Bool) (s : State) : State :=
  if switching then release (Hold.onSwitch d) s else s

/-- The monitors that run on the descriptor go OFF (R155). -/
def unbindMonitors (d : DescIdx) (s : State) : State := { s with mons := vmap (fun m => m.unbound d) s.mons }

theorem withdraw_eq : withdraw d s =
    drainEnd d (recheckStart d (unbindMonitors d (releaseSwitch d (s.desc d).switching (leaveUse d s)))) := rfl

section
variable (d) (b : Bool)

@[simp] theorem releaseSwitch_desc (e : DescIdx) : (releaseSwitch d b s).desc e = s.desc e := by
  unfold releaseSwitch; split <;> rfl
@[simp] theorem releaseSwitch_eng : (releaseSwitch d b s).eng = s.eng := by unfold releaseSwitch; split <;> rfl
@[simp] theorem releaseSwitch_mon (m : Fin 16) : (releaseSwitch d b s).mon m = s.mon m := by
  unfold releaseSwitch; split <;> rfl
@[simp] theorem releaseSwitch_evc : (releaseSwitch d b s).evc = s.evc := by unfold releaseSwitch; split <;> rfl
theorem surround_releaseSwitch : SameSurround s (releaseSwitch d b s) := by unfold releaseSwitch; split <;> exact .refl

theorem releaseSwitch_port (i : Fin 4) :
    (releaseSwitch d b s).port i = if b then releasePort (Hold.onSwitch d) (s.port i) else s.port i := by
  unfold releaseSwitch; split
  · exact release_port s _ i
  · rfl

@[simp] theorem unbindMonitors_desc (e : DescIdx) : (unbindMonitors d s).desc e = s.desc e := rfl
@[simp] theorem unbindMonitors_eng : (unbindMonitors d s).eng = s.eng := rfl
@[simp] theorem unbindMonitors_evc : (unbindMonitors d s).evc = s.evc := rfl
@[simp] theorem unbindMonitors_port (i : Fin 4) : (unbindMonitors d s).port i = s.port i := rfl
@[simp] theorem unbindMonitors_mon (m : Fin 16) : (unbindMonitors d s).mon m = (s.mon m).unbound d := look_vmap ..
theorem surround_unbindMonitors : SameSurround s (unbindMonitors d s) := .refl

end

theorem surround_withdraw : SameSurround s (withdraw d s) := by
  rw [withdraw_eq]
  exact surround_leaveUse.trans ((surround_releaseSwitch d _).trans ((surround_unbindMonitors d).trans
    ((surround_recheckStart d).trans (surround_drainEnd d))))

theorem unbound_of_runs {x : Monitor} (h : ordIdx x.subject = d) (hs : x.state ≠ .off) :
    x.unbound d = { x with state := .off, count := 0, idleJob := none } := if_pos ⟨h, hs⟩

theorem unbound_of_not {x : Monitor} (h : ¬(ordIdx x.subject = d ∧ x.state ≠ .off)) : x.unbound d = x := if_neg h

/-- What becomes of the state `u` when descriptor `d` has left use and, if `ended` says so, a job has ended with it: all
but the ports, before the drain is looked at. -/
structure LeftUse (d : DescIdx) (ended : Option (Ending × Job)) (u c : State) : Prop where
  self   : c.desc d = { (u.desc d).leaving with outcome := ended.elim (u.desc d).outcome fun e => e.1.outcome }
  others : ∀ e, e ≠ d → c.desc e = u.desc e
  eng    : c.eng = ended.elim u.eng fun _ => u.eng.afterJob
  flags  : ∀ k, c.isPending k = true ↔ u.isPending k = true ∨ ∃ e, ended = some e ∧ k = e.1.event
  route  : c.evc.route = u.evc.route
  told   : ∀ m e, ended = some e → e.2.origin = .monitorIdle m → (u.mon m).idleJob = some e.2.id →
    c.mon m = Monitor.unbound { u.mon m with idleJob := none } d
  untold : ∀ m, (∀ e, ended = some e → ¬(e.2.origin = .monitorIdle m ∧ (u.mon m).idleJob = some e.2.id)) →
    c.mon m = (u.mon m).unbound d

/-- A descriptor leaves use with no job (R21). -/
theorem leftUse_alone (b : Bool) :
    LeftUse d none s (unbindMonitors d (releaseSwitch d b (s.modDesc d Desc.leaving))) where
  self := by simp [Desc.leaving]
  others e he := by simp [he]
  eng := by simp
  flags k := by simp [State.isPending]
  route := by simp
  told m e he := nomatch he
  untold m _ := by simp

/-- A descriptor leaves use, and then its job in STARTING fails its start checks (R110). -/
theorem leftUse_failed (b : Bool) (e : Ending) {j : Job} (hj : s.eng.active = some j) (hd : ordIdx j.desc = d) :
    LeftUse d (some (e, j)) s
      (endActive e (unbindMonitors d (releaseSwitch d b (s.modDesc d Desc.leaving)))) := by
  have h := leftUse_alone (s := s) (d := d) b
  have hact : (unbindMonitors d (releaseSwitch d b (s.modDesc d Desc.leaving))).eng.active = some j := by
    rw [h.eng]; exact hj
  generalize unbindMonitors d (releaseSwitch d b (s.modDesc d Desc.leaving)) = v at *
  have hmon (m : Fin 16) : v.mon m = (s.mon m).unbound d := h.untold m nofun
  refine ⟨?_, fun e' he => ?_, ?_, fun k => ?_, ?_, fun m e' he ho hi => ?_, fun m hn => ?_⟩
  · rw [endActive_desc v e hact, if_pos hd.symm, h.self]; simp [Desc.leaving]
  · rw [endActive_desc v e hact, if_neg (hd ▸ he), h.others e' he]
  · rw [endActive_eng, hact, if_neg nofun, h.eng]; rfl
  · rw [endActive_isPending e hact, h.flags]; simp
  · rw [endActive_route, h.route]
  · obtain rfl : (e, j) = e' := Option.some.inj he
    rw [endActive_mon v e hact, endNotice_mon, hmon]
    by_cases hr : ordIdx (s.mon m).subject = d ∧ (s.mon m).state ≠ .off
    · rw [unbound_of_runs hr.1 hr.2, unbound_of_runs (x := { s.mon m with idleJob := none }) hr.1 hr.2]; simp
    · rw [unbound_of_not hr, if_pos ⟨ho, hi⟩, unbound_of_not (x := { s.mon m with idleJob := none }) hr]
  · rw [endActive_mon v e hact, endNotice_mon, hmon]
    by_cases hr : ordIdx (s.mon m).subject = d ∧ (s.mon m).state ≠ .off
    · rw [unbound_of_runs hr.1 hr.2]; simp
    · rw [unbound_of_not hr, if_neg (hn _ rfl)]

/-- A MIGRATING descriptor leaves use, and its job ends with it (R22). -/
theorem leftUse_retired (b : Bool) (e : Ending) {j : Job} (hj : s.eng.active = some j) (hd : ordIdx j.desc = d) :
    LeftUse d (some (e, j)) s
      (unbindMonitors d (releaseSwitch d b (endActive e (s.modDesc d Desc.leaving)))) := by
  have hact : (s.modDesc d Desc.leaving).eng.active = some j := hj
  refine ⟨?_, fun e' he => ?_, ?_, fun k => ?_, ?_, fun m e' he ho hi => ?_, fun m hn => ?_⟩
  · simp only [unbindMonitors_desc, releaseSwitch_desc]
    rw [endActive_desc _ e hact, if_pos hd.symm]; simp [Desc.leaving]
  · simp only [unbindMonitors_desc, releaseSwitch_desc]
    rw [endActive_desc _ e hact, if_neg (hd ▸ he), State.modDesc_desc_ne _ _ he]
  · simp [hj]
  · simp only [State.isPending, unbindMonitors_evc, releaseSwitch_evc]
    exact (endActive_isPending e hact k).trans (by simp [State.isPending])
  · simp [endActive_route]
  · obtain rfl : (e, j) = e' := Option.some.inj he
    simp only [unbindMonitors_mon, releaseSwitch_mon]
    rw [endActive_mon _ e hact, endNotice_mon, State.modDesc_mon, if_pos ⟨ho, hi⟩]
  · simp only [unbindMonitors_mon, releaseSwitch_mon]
    rw [endActive_mon _ e hact, endNotice_mon, State.modDesc_mon, if_neg (hn _ rfl)]

/-- The active job ends as descriptor `d` leaves use: it copies it, or waits in STARTING for it (R22, R110). -/
def State.jobEndsWith (u : State) (d : Fin 64) : Prop :=
  u.eng.active.map Job.desc = some d ∧ ((u.desc (ordIdx d)).state = .migrating ∨ u.eng.state = .starting)

/-- How the job ends (R22, R110). -/
def Desc.endingAtRetire (x : Desc) : Ending := if x.state = .migrating then .retired else .failed .state 0

/-- A job in STARTING whose descriptor is not LIVE fails its start checks with STATE (R110). -/
theorem recheckStart_notLive {j : Job} (hj : s.eng.active = some j) (hd : ordIdx j.desc = d)
    (hs : s.eng.state = .starting) (hx : (s.desc d).state ≠ .live) :
    recheckStart d s = endActive (.failed .state 0) s := by
  have hv : startVerdict (s.desc (ordIdx j.desc)) j = .fail .state := if_pos (hd ▸ hx)
  rw [recheckStart, if_pos (by rw [hj]; exact congrArg some hd), beginJob]
  simp only [hj, hs, hv, if_true]

/-- No start check is taken where no job waits in STARTING for the descriptor. -/
theorem recheckStart_other (h : ¬(s.eng.active.map (fun j => ordIdx j.desc) = some d ∧ s.eng.state = .starting)) :
    recheckStart d s = s := by
  unfold recheckStart
  split
  · next ha =>
    unfold beginJob
    split
    · rfl
    · rw [if_neg fun hs => h ⟨ha, hs⟩]
  · rfl

/-- A descriptor in use is withdrawn: its job, if one ends with it, and the ports (R21, R22). -/
theorem withdraw_spec (u : State) (d : Fin 64) (hcop : (u.desc (ordIdx d)).state = .migrating → u.eng.copies (ordIdx d)) :
    ∃ ended c, withdraw (ordIdx d) u = drainEnd (ordIdx d) c ∧ LeftUse (ordIdx d) ended u c ∧
      (u.jobEndsWith d → ∃ j, u.eng.active = some j ∧ ended = some ((u.desc (ordIdx d)).endingAtRetire, j)) ∧
      (¬u.jobEndsWith d → ended = none) ∧
      ∀ i,
        let onSwitch (p : IPort) : IPort :=
          if (u.desc (ordIdx d)).switching = true then releasePort (Hold.onSwitch (ordIdx d)) p else p
        let onLines (p : IPort) : IPort := releasePort (Hold.onDescLine (ordIdx d)) p
        ((u.desc (ordIdx d)).state = .migrating → c.port i = onSwitch (onLines (u.port i))) ∧
        ((u.desc (ordIdx d)).state ≠ .migrating → u.jobEndsWith d → c.port i = onLines (onSwitch (u.port i))) ∧
        (¬u.jobEndsWith d → c.port i = onSwitch (u.port i)) := by
  have hnames (j : Job) (hj : u.eng.active = some j) : u.eng.active.map Job.desc = some d ↔ ordIdx j.desc = ordIdx d := by
    simp [hj]
  rw [withdraw_eq, leaveUse]
  by_cases hm : (u.desc (ordIdx d)).state = .migrating
  · obtain ⟨hst, j, hj, hjd⟩ := hcop hm
    have hends : u.jobEndsWith d := ⟨(hnames j hj).2 hjd, .inl hm⟩
    refine ⟨some (.retired, j), _, ?_, leftUse_retired (u.desc (ordIdx d)).switching .retired hj hjd, fun _ => ⟨j, hj, ?_⟩,
      fun h => absurd hends h, fun i => ⟨fun _ => ?_, fun h => absurd hm h, fun h => absurd hends h⟩⟩
    · rw [if_pos hm, recheckStart_other]
      · rfl
      · simp [hj, afterJob_active]
    · rw [Desc.endingAtRetire, if_pos hm]
    · rw [unbindMonitors_port, releaseSwitch_port, endActive_port _ (by exact hj), hjd]; rfl
  · rw [if_neg hm]
    by_cases hends : u.jobEndsWith d
    · obtain ⟨j, hj⟩ : ∃ j, u.eng.active = some j := by
        rcases h : u.eng.active with _ | j
        · rw [State.jobEndsWith, h] at hends; cases hends.1
        · exact ⟨j, rfl⟩
      have hjd := (hnames j hj).1 hends.1
      refine ⟨some (.failed .state 0, j), _, ?_, leftUse_failed (u.desc (ordIdx d)).switching _ hj hjd,
        fun _ => ⟨j, hj, ?_⟩, fun h => absurd hends h, fun i => ⟨fun h => absurd h hm, fun _ _ => ?_, fun h => absurd hends h⟩⟩
      · rw [recheckStart_notLive (j := j) (by simpa using hj) hjd (by simpa using hends.2.resolve_left hm) (by simp)]
        rfl
      · rw [Desc.endingAtRetire, if_neg hm]
      · rw [endActive_port _ (by simpa using hj), unbindMonitors_port, releaseSwitch_port, hjd]; rfl
    · refine ⟨none, _, ?_, leftUse_alone (u.desc (ordIdx d)).switching, fun h => absurd h hends, fun _ => rfl,
        fun i => ⟨fun h => absurd h hm, fun _ h => absurd h hends, fun _ => ?_⟩⟩
      · rw [recheckStart_other]
        · rfl
        · rintro ⟨ha, hs⟩
          refine hends ⟨?_, .inr (by simpa using hs)⟩
          obtain ⟨j, hj, hjd⟩ := Option.map_eq_some_iff.1 (by simpa using ha)
          exact (hnames j hj).2 (congrArg ordIdx hjd)
      · rw [unbindMonitors_port, releaseSwitch_port]; rfl

/-! ## RETIRE -/

theorem endCommand_isPending (e : CmdEnd) (k : EventClass) :
    (endCommand e s).isPending k = true ↔ s.isPending k = true ∨ k = .cmdDone := by
  rw [endCommand, isPending_raise]
  split
  · next h => simp [h]
  · next h => simp [h]; rfl

theorem endingAtRetire_outcome (x : Desc) :
    x.endingAtRetire.outcome = if x.state = .migrating then .aborted .retired else .failed .state 0 := by
  unfold Desc.endingAtRetire; split <;> rfl

theorem endingAtRetire_event (x : Desc) :
    x.endingAtRetire.event = if x.state = .migrating then .jobAborted else .jobFailed := by
  unfold Desc.endingAtRetire; split <;> rfl

theorem retire_refused (hb : s.mgmt.busy = false) (hd : paramIndex s.mgmt.param = d.val) (hfloor : d ≠ floorIdx)
    (hst : (s.desc d).state = .free ∨ (s.desc d).state = .draining) :
    exec .retire s = .next (commandEnded 0x04 (.refused .state) s) := by
  rw [exec_retire]
  refine congrArg _ (writeCommand_refused hb ((withIndex_eq hd).trans ?_))
  rw [if_neg hfloor, latchCommand_desc]
  rcases hst with h | h <;> rw [h]

theorem retire_staged (hb : s.mgmt.busy = false) (hd : paramIndex s.mgmt.param = d.val) (hfloor : d ≠ floorIdx)
    (hst : (s.desc d).state = .staged) :
    exec .retire s = .next ((commandEnded 0x04 (.done []) s).modDesc d Desc.freed) := by
  rw [exec_retire]
  refine congrArg _ ((writeCommand_finished hb ((withIndex_eq hd).trans ?_)).trans (endCommand_modDesc ..))
  rw [if_neg hfloor, latchCommand_desc, hst]

/-- RETIRE of a descriptor in use: its monitors finish their requests, and it is withdrawn (R21, R155). -/
theorem retire_inUse (hb : s.mgmt.busy = false) (hd : paramIndex s.mgmt.param = d.val) (hfloor : d ≠ floorIdx)
    (hu : (s.desc d).inUse = true) : exec .retire s =
      .next (endCommand (.done []) (withdraw d (latchCommand 0x04 (finishMonitorsOn d s)))) := by
  have h : finishMonitorsOn d (latchCommand 0x04 s) = latchCommand 0x04 (finishMonitorsOn d s) := finishAll_modMgmt _ _
  rw [exec_retire, ← h]
  refine congrArg _ (writeCommand_finished hb ((withIndex_eq hd).trans ?_))
  rw [if_neg hfloor, latchCommand_desc]
  simp only [Desc.inUse, Bool.or_eq_true, decide_eq_true_eq] at hu
  rcases hu with hu | hu <;> rw [hu]

/-- Settles O14: `withdraw_spec` says what leaving use does, `drainEnd` ends the drain. -/
theorem retireTakesOutOfUse : Obligations.RetireTakesOutOfUse := by
  refine ⟨fun s d hb hd => ⟨fun hst => retire_refused (d := ordIdx d) hb hd (ordIdx_ne_floor d) hst,
    fun hst => retire_staged (d := ordIdx d) hb hd (ordIdx_ne_floor d) hst⟩, ?_⟩
  intro s d hb hd hfits hu u x jobEnds onSwitch onLines told
  refine ⟨fun hask => finishAll_eq_self fun m hm => ?_, ?_⟩
  · simp only [Bool.and_eq_true, decide_eq_true_eq, ordIdx_inj] at hm
    exact hask m hm.1
  have hst : SameStanding s u := standing_finishAll _
  have hsur : SameSurround s u := surround_finishAll _
  have hports : u.ports = s.ports := finishAll_ports _
  have hroute : u.evc.route = s.evc.route := finishAll_route _
  have hexec := retire_inUse (d := ordIdx d) hb hd (ordIdx_ne_floor d) hu
  change exec .retire s = .next (endCommand (.done []) (withdraw (ordIdx d) (latchCommand 0x04 u))) at hexec
  clear_value u
  obtain ⟨q, n, cr, bt, heng⟩ := hst.eng
  have hact : u.eng.active = s.eng.active := by rw [heng]
  have hcop : (u.desc (ordIdx d)).state = .migrating → u.eng.copies (ordIdx d) := fun h => by
    obtain ⟨o, ho⟩ := hst.desc (ordIdx d)
    rw [heng]; exact hfits.copies_of_migrating (by rw [ho] at h; exact h)
  have hjob : (latchCommand 0x04 u).jobEndsWith d ↔ jobEnds := by
    simp only [State.jobEndsWith, latchCommand_eng, latchCommand_desc, heng]; rfl
  obtain ⟨ended, c, hw, hleft, hends, hnone, hport⟩ := withdraw_spec (latchCommand 0x04 u) d hcop
  have hsurw : SameSurround (latchCommand 0x04 u) (drainEnd (ordIdx d) c) := hw ▸ surround_withdraw
  rw [hw] at hexec
  rw [hjob] at hends hnone
  simp only [hjob, latchCommand_desc, latchCommand_eng, latchCommand_port, port_of_ports hports] at hends hport
  have hself := hleft.self
  rw [latchCommand_desc] at hself
  have hdrain : (c.desc (ordIdx d)).state = .draining := by rw [hself]; rfl
  have hcp (i : Fin 4) : (endCommand (.done []) (drainEnd (ordIdx d) c)).port i = c.port i :=
    port_of_ports (drainEnd_ports _) i
  have hmon (m : Fin 16) : (endCommand (.done []) (drainEnd (ordIdx d) c)).mon m = c.mon m := drainEnd_mon _ m
  have htold (m : Fin 16) (h : told m) : c.mon m = Monitor.unbound { u.mon m with idleJob := none } (ordIdx d) := by
    obtain ⟨hj, j, hjs, ho, hi⟩ := h
    obtain ⟨j', hj', he⟩ := hends hj
    obtain rfl : j = j' := Option.some.inj (hjs.symm.trans (hact.symm.trans hj'))
    exact hleft.told m _ he ho hi
  have huntold (m : Fin 16) (h : ¬told m) : c.mon m = (u.mon m).unbound (ordIdx d) := by
    refine hleft.untold m fun e he hk => ?_
    by_cases hj : jobEnds
    · obtain ⟨j', hj', he'⟩ := hends hj
      obtain rfl : e = _ := Option.some.inj (he.symm.trans he')
      exact h ⟨hj, j', hact.symm.trans hj', hk⟩
    · rw [hnone hj] at he; cases he
  have hevent (k : EventClass) : (∃ e, ended = some e ∧ k = e.1.event) ↔
      jobEnds ∧ k = if x.state = .migrating then .jobAborted else .jobFailed := by
    rw [← endingAtRetire_event]
    by_cases hj : jobEnds
    · obtain ⟨j, _, he⟩ := hends hj
      simp [hj, he, x]
    · simp [hj, hnone hj]
  refine ⟨_, ended.elim x.outcome fun e => e.1.outcome, hexec, ?_, fun h => ?_, fun h => ?_, ?_, fun e he => ?_, fun h => ?_,
    fun h => ?_, fun k => ?_, ?_, fun h i => ?_, fun hm h i => ?_, fun h i => ?_, fun hsw i k hk => ?_, fun hm i k hk => ?_,
    fun m hsub hoff => ?_, fun m hoff => ⟨fun h => ?_, fun h => ?_⟩, ?_, ?_, ?_⟩
  · exact endCommand_mgmt _ (hsurw.2.1.trans (latchCommand_mgmt hsur.2.1))
  · obtain ⟨j, _, he⟩ := hends h
    rw [he]; exact endingAtRetire_outcome x
  · rw [hnone h]; rfl
  · rw [endCommand_desc, drainEnd_desc hdrain, hself]; rfl
  · rw [endCommand_desc, drainEnd_desc_ne he, hleft.others e he, latchCommand_desc]
  · obtain ⟨j, _, he⟩ := hends h
    rw [endCommand_eng, drainEnd_eng, hleft.eng, he]; rfl
  · rw [endCommand_eng, drainEnd_eng, hleft.eng, hnone h]; rfl
  · rw [endCommand_isPending, drainEnd_isPending hdrain, hleft.flags, hevent, hself, latchCommand_isPending]
    exact iff_of_eq (by ac_rfl)
  · rw [endCommand_route, drainEnd_route, hleft.route]; exact hroute
  · rw [hcp]; exact (hport i).1 h
  · rw [hcp]; exact (hport i).2.1 hm h
  · rw [hcp]; exact (hport i).2.2 h
  · show ((endCommand (.done []) (drainEnd (ordIdx d) c)).port i).waits k
    have hsw : (u.desc (ordIdx d)).switching = true := hsw
    rw [hcp]
    by_cases hm : x.state = .migrating
    · rw [(hport i).1 hm, if_pos hsw]
      exact waits_of_named_later hk
    · by_cases hj : jobEnds
      · rw [(hport i).2.1 hm hj, if_pos hsw]
        exact (waits_of_named hk).release _
      · rw [(hport i).2.2 hj, if_pos hsw]
        exact waits_of_named hk
  · show ((endCommand (.done []) (drainEnd (ordIdx d) c)).port i).waits k
    rw [hcp, (hport i).1 hm]
    split
    · exact (waits_of_named hk).release _
    · exact waits_of_named hk
  · rw [hmon]
    have hsub' : ordIdx (u.mon m).subject = ordIdx d := congrArg ordIdx hsub
    by_cases h : told m
    · rw [htold m h]; exact unbound_of_runs (x := { u.mon m with idleJob := none }) hsub' hoff
    · rw [huntold m h]; exact unbound_of_runs hsub' hoff
  · rw [hmon, htold m h]
    exact unbound_of_not (x := { u.mon m with idleJob := none }) fun hk =>
      hoff.elim (fun hne => hne (ordIdx_inj.1 hk.1)) hk.2
  · rw [hmon, huntold m h]
    exact unbound_of_not fun hk => hoff.elim (fun hne => hne (ordIdx_inj.1 hk.1)) hk.2
  · exact hsurw.1.trans hsur.1
  · exact hsurw.2.2.1.trans hsur.2.2.1
  · exact hsurw.2.2.2.1.trans hsur.2.2.2.1

end Sys2Proof.Machine
end

section
/-! SUPPORT. Words and their bit fields: a word packed of fields in rising places is their sum, and a field placed where it
was taken from is a mask of the word (R174 to R177). -/

namespace Sys2Proof.Machine

/-! ## Packing -/

theorem bits_eq_div_mod (w : Word) (lo len : Nat) : bits w lo len = w.toNat / 2 ^ lo % 2 ^ len := by
  rw [bits, Nat.shiftRight_eq_div_pow]

/-- The word has the value `n`, below bit `hi`. -/
def Packs (w : Word) (n hi : Nat) : Prop := w.toNat = n ∧ n < 2 ^ hi

theorem place_toNat {v lo len : Nat} (hv : v < 2 ^ len) (hl : lo + len ≤ 32) : (place v lo).toNat = v * 2 ^ lo := by
  have hlt : v * 2 ^ lo < 2 ^ 32 := calc
    v * 2 ^ lo < 2 ^ len * 2 ^ lo := Nat.mul_lt_mul_of_pos_right hv (Nat.two_pow_pos lo)
    _ = 2 ^ (lo + len) := by rw [← pow_add, add_comm]
    _ ≤ 2 ^ 32 := Nat.pow_le_pow_right (by decide) hl
  rw [place, BitVec.toNat_ofNat, Nat.shiftLeft_eq, Nat.mod_eq_of_lt hlt]

theorem packs_place {v len : Nat} (hv : v < 2 ^ len) (hl : len ≤ 32) : Packs (place v 0) v len :=
  ⟨by rw [place_toNat hv (by omega), pow_zero, mul_one], hv⟩

/-- A further field above those packed so far adds its value at its place. -/
theorem Packs.or {w : Word} {n hi v lo len : Nat} (h : Packs w n hi) (hle : hi ≤ lo) (hv : v < 2 ^ len)
    (hl : lo + len ≤ 32) : Packs (w ||| place v lo) (n + v * 2 ^ lo) (lo + len) := by
  obtain ⟨hw, hn⟩ := h
  have hn' : n < 2 ^ lo := Nat.lt_of_lt_of_le hn (Nat.pow_le_pow_right (by decide) hle)
  refine ⟨?_, ?_⟩
  · rw [BitVec.toNat_or, hw, place_toNat hv hl, Nat.or_comm, Nat.mul_comm v, ← Nat.two_pow_add_eq_or_of_lt hn',
      Nat.add_comm]
  · calc n + v * 2 ^ lo < 2 ^ lo + v * 2 ^ lo := Nat.add_lt_add_right hn' _
      _ = (v + 1) * 2 ^ lo := by ring
      _ ≤ 2 ^ len * 2 ^ lo := Nat.mul_le_mul_right _ hv
      _ = 2 ^ (lo + len) := by rw [← pow_add, add_comm]

/-! ## Masks -/

theorem getLsbD_place (v lo i : Nat) : (place v lo).getLsbD i = (decide (i < 32) && decide (lo ≤ i) && v.testBit (i - lo)) := by
  rw [place, BitVec.getLsbD_ofNat, Nat.testBit_shiftLeft, Bool.and_assoc]

/-- A field put back where it was taken from is the word under the field's mask. -/
theorem place_bits (w : Word) (lo len : Nat) : place (bits w lo len) lo = w &&& place (2 ^ len - 1) lo := by
  apply BitVec.eq_of_getLsbD_eq
  intro i hi
  rw [BitVec.getLsbD_and, getLsbD_place, getLsbD_place, bits, Nat.testBit_mod_two_pow, Nat.testBit_shiftRight,
    Nat.testBit_two_pow_sub_one]
  by_cases hlo : lo ≤ i
  · rw [Nat.add_sub_cancel' hlo, BitVec.testBit_toNat]
    simp only [hi, hlo, decide_true, Bool.true_and, Bool.and_comm]
  · simp [hlo]

/-- Fields of one word put back beside each other are the word under their masks together. -/
theorem and_or_place_bits (w m : Word) (lo len : Nat) :
    w &&& m ||| place (bits w lo len) lo = w &&& (m ||| place (2 ^ len - 1) lo) := by
  rw [place_bits, ← BitVec.and_or_distrib_left]

theorem place_toNat_self (w : Word) : place w.toNat 0 = w := by
  rw [place, Nat.shiftLeft_zero, BitVec.ofNat_toNat, BitVec.setWidth_eq]

theorem or_place_zero (w : Word) (lo : Nat) : w ||| place 0 lo = w := by
  rw [place, Nat.zero_shiftLeft]; exact BitVec.or_zero

/-! ## Codes -/

theorem flag_lt (b : Bool) : flag b < 2 ^ 1 := by cases b <;> decide
theorem permCode_lt (q : Perm) : permCode q < 2 ^ 2 := by cases q <;> decide
theorem readKind_lt (r : ReadRoute) : readKind r < 2 ^ 2 := by cases r <;> simp [readKind]
theorem writeKind_lt (r : WriteRoute) : writeKind r < 2 ^ 2 := by cases r <;> simp [writeKind]
theorem mirrorKind_lt (m : Option Window) : mirrorKind m < 2 ^ 2 := by cases m <;> simp [mirrorKind]
theorem descStateCode_lt (st : DescState) : descStateCode st < 2 ^ 3 := by cases st <;> decide
theorem outcomeCode_lt (o : LastOutcome) : outcomeCode o < 2 ^ 2 := by cases o <;> simp [outcomeCode]
theorem outcomeReasonCode_lt (o : LastOutcome) : outcomeReasonCode o < 2 ^ 4 := by
  rcases o with _ | _ | r | r
  · decide
  · decide
  · cases r <;> simp [outcomeReasonCode]
  · cases r <;> decide
theorem monStateCode_lt (st : MonState) : monStateCode st < 2 ^ 2 := by cases st <;> decide
theorem filterCode_lt (f : Filter) : filterCode f < 2 ^ 8 := by cases f <;> decide
theorem modeCode_lt (m : Mode) : modeCode m < 2 ^ 8 := by cases m <;> decide
theorem roleCode_lt (r : LegRole) : roleCode r < 2 ^ 2 := by cases r <;> decide
theorem resolutionCode_lt (o : Resolution) : resolutionCode o < 2 ^ 8 := by cases o <;> simp [resolutionCode]
theorem fin_lt {n : Nat} (i : Fin n) {len : Nat} (h : n ≤ 2 ^ len) : i.val < 2 ^ len := Nat.lt_of_lt_of_le i.isLt h

/-! ## Windows -/

theorem windowWord_packs (w : Window) : Packs (windowWord (some w)) (w.base.toNat + w.target.val * 2 ^ 28) 30 :=
  (packs_place w.base.isLt (by decide)).or (Nat.le_refl 28) (len := 2) (fin_lt w.target (Nat.le_refl 4)) (by decide)

/-- A window holds the target number and target base that it was made of (R14). -/
theorem windowOf_fields {target base : Nat} {w : Window} (h : windowOf target base = some w) :
    w.target.val = target ∧ w.base.toNat = base := by
  unfold windowOf at h
  split at h
  · split at h
    · next hb =>
      cases h
      exact ⟨rfl, by rw [BitVec.toNat_ofNat, Nat.mod_eq_of_lt hb]⟩
    · cases h
  · cases h

/-- A target base and number in range read back as they came (R14, R174). -/
theorem windowWord_windowOf {target : Nat} {b : Word} {w : Window} (h : windowOf target b.toNat = some w) :
    windowWord (some w) = b ||| place target 28 := by
  obtain ⟨ht, hb⟩ := windowOf_fields h
  rw [windowWord, ht, hb, place_toNat_self]

end Sys2Proof.Machine
end

section
/-! SUPPORT. The reading commands: what they report, and that the fields which STAGE and SET MONITOR take read back. -/

namespace Sys2Proof.Machine

variable {s t : State}

/-! ## The words of the results -/

/-- RESULT1 of READ DESCRIPTOR (R174). -/
theorem descriptorWord1_packs (d : DescIdx) (x : Desc) (hz : x.size ≤ 28) :
    Packs (place d.val 0 ||| place x.size 8 |||
      place (permCode (look x.perms 0)) 16 ||| place (permCode (look x.perms 1)) 18 |||
      place (permCode (look x.perms 2)) 20 ||| place (permCode (look x.perms 3)) 22 |||
      place (readKind x.read) 24 ||| place (writeKind x.write) 26 ||| place (mirrorKind x.mirror) 28 |||
      place (flag x.switching) 30)
      (d.val + x.size * 2 ^ 8 + permCode (look x.perms 0) * 2 ^ 16 + permCode (look x.perms 1) * 2 ^ 18 +
        permCode (look x.perms 2) * 2 ^ 20 + permCode (look x.perms 3) * 2 ^ 22 + readKind x.read * 2 ^ 24 +
        writeKind x.write * 2 ^ 26 + mirrorKind x.mirror * 2 ^ 28 + flag x.switching * 2 ^ 30) 31 :=
  (((((((((packs_place (len := 8) (fin_lt d (by decide)) (by decide)).or (len := 8) (by decide) (by omega) (by decide)).or
    (by decide) (permCode_lt _) (by decide)).or (by decide) (permCode_lt _) (by decide)).or
    (by decide) (permCode_lt _) (by decide)).or (by decide) (permCode_lt _) (by decide)).or
    (by decide) (readKind_lt _) (by decide)).or (by decide) (writeKind_lt _) (by decide)).or
    (by decide) (mirrorKind_lt _) (by decide)).or (by decide) (flag_lt _) (by decide)

/-- RESULT6 of READ DESCRIPTOR (R174). -/
theorem descriptorWord6_packs (x : Desc) (hc : x.cur ≤ 32) (hp : x.prev ≤ 32) :
    Packs (place x.gen.toNat 0 ||| place x.cur 8 ||| place x.prev 16 ||| place (outcomeCode x.outcome) 24 |||
      place (outcomeReasonCode x.outcome) 26)
      (x.gen.toNat + x.cur * 2 ^ 8 + x.prev * 2 ^ 16 + outcomeCode x.outcome * 2 ^ 24 +
        outcomeReasonCode x.outcome * 2 ^ 26) 30 :=
  ((((packs_place x.gen.isLt (by decide)).or (len := 6) (by decide) (by omega) (by decide)).or
    (len := 6) (by decide) (by omega) (by decide)).or (by decide) (outcomeCode_lt _) (by decide)).or
    (by decide) (outcomeReasonCode_lt _) (by decide)

/-- The fields of a route's word (R174). -/
theorem windowWord_fields (w : Window) : bits (windowWord (some w)) 0 28 = w.base.toNat ∧
    bits (windowWord (some w)) 28 2 = w.target.val ∧ bits (windowWord (some w)) 30 2 = 0 := by
  have hw := (windowWord_packs w).1
  have hb := w.base.isLt
  have ht := w.target.isLt
  simp only [bits_eq_div_mod, hw]
  omega

/-- READ DESCRIPTOR's words carry each field in its place (R174). -/
theorem descriptorWords_fields (d : DescIdx) (x : Desc) (hz : x.size ≤ 28) (hc : x.cur ≤ 32) (hp : x.prev ≤ 32) :
    ∃ w1 w2 w6, descriptorWords d x =
        [w1, w2, windowWord x.read.win, windowWord x.write.win, windowWord x.mirror, w6, place (outcomeLine x.outcome) 0] ∧
      (bits w1 0 8 = d.val ∧ bits w1 8 8 = x.size ∧
        (∀ i : Fin 4, bits w1 (16 + 2 * i.val) 2 = permCode (look x.perms i)) ∧
        bits w1 24 2 = readKind x.read ∧ bits w1 26 2 = writeKind x.write ∧ bits w1 28 2 = mirrorKind x.mirror ∧
        bits w1 30 1 = flag x.switching ∧ bits w1 31 1 = 0) ∧
      (bits w2 0 28 = x.base.toNat ∧ bits w2 28 3 = descStateCode x.state ∧ bits w2 31 1 = 0) ∧
      (bits w6 0 8 = x.gen.toNat ∧ bits w6 8 6 = x.cur ∧ bits w6 14 2 = 0 ∧ bits w6 16 6 = x.prev ∧
        bits w6 22 2 = 0 ∧ bits w6 24 2 = outcomeCode x.outcome ∧ bits w6 26 4 = outcomeReasonCode x.outcome ∧
        bits w6 30 2 = 0) := by
  refine ⟨_, _, _, rfl, ?_, ?_, ?_⟩
  · have hd := d.isLt
    have hq (i : Fin 4) := permCode_lt (look x.perms i)
    have h0 := hq 0
    have h1 := hq 1
    have h2 := hq 2
    have h3 := hq 3
    have hr := readKind_lt x.read
    have hw := writeKind_lt x.write
    have hm := mirrorKind_lt x.mirror
    have hs := flag_lt x.switching
    simp only [bits_eq_div_mod, (descriptorWord1_packs d x hz).1]
    refine ⟨by omega, by omega, fun i => ?_, by omega, by omega, by omega, by omega, by omega⟩
    match i with
    | 0 => simp only [Fin.isValue, Fin.val_zero]; omega
    | 1 => simp only [Fin.isValue, Fin.val_one]; omega
    | 2 => simp only [Fin.isValue, Fin.val_two]; omega
    | 3 => show _ / 2 ^ (16 + 2 * 3) % _ = _; omega
  · have hb := x.base.isLt
    have hs := descStateCode_lt x.state
    simp only [bits_eq_div_mod,
      ((packs_place x.base.isLt (by decide)).or (Nat.le_refl 28) (descStateCode_lt x.state) (by decide)).1]
    omega
  · have hg := x.gen.isLt
    have ho := outcomeCode_lt x.outcome
    have hr := outcomeReasonCode_lt x.outcome
    simp only [bits_eq_div_mod, (descriptorWord6_packs x hc hp).1]
    omega

theorem modeCode_eq (m : Mode) : modeCode m = match m with | .move => 0 | .shadow => 1 := by cases m <;> rfl

/-- A template's two words (R177). -/
theorem template_words (o : Option Template) : match o with
    | none => templateWord o = 0 ∧ templateBase o = 0
    | some t => (templateWord o).toNat =
        1 + 256 * t.dest.target.val + 65536 * (match t.mode with | .move => 0 | .shadow => 1) ∧
      (templateBase o).toNat = t.dest.base.toNat := by
  rcases o with _ | t
  · exact ⟨rfl, rfl⟩
  · have hword := (((packs_place (v := 1) (len := 8) (by decide) (by decide)).or (lo := 8) (len := 8)
      (by decide) (fin_lt t.dest.target (by decide)) (by decide)).or (lo := 16) (by decide) (modeCode_lt t.mode)
      (by decide)).1
    refine ⟨hword.trans ?_, (packs_place t.dest.base.isLt (by decide)).1⟩
    rw [modeCode_eq]
    ring

/-- READ MONITOR's words carry each field in its place (R177). -/
theorem monitorWords_fields (x : Monitor) (hc : x.count ≤ 255) (hr : x.reload ≤ 255) : ∃ w1 w2, monitorWords x =
      [w1, w2, templateWord x.idleT, templateBase x.idleT, templateWord x.wakeT, templateBase x.wakeT] ∧
    (bits w1 0 2 = monStateCode x.state ∧ bits w1 2 6 = 0 ∧ bits w1 8 8 = x.subject.val ∧ bits w1 16 8 = x.count ∧
      bits w1 24 8 = x.reload) ∧
    (bits w2 0 8 = (tickIdx x.tickSel).val ∧ bits w2 8 8 = filterCode x.filter ∧ bits w2 16 1 = flag x.idleJob.isSome ∧
      bits w2 17 7 = 0 ∧ bits w2 24 8 = (match x.idleJob with | none => 0 | some id => id.toNat)) := by
  refine ⟨_, _, rfl, ?_, ?_⟩
  · have hs := monStateCode_lt x.state
    have hd := x.subject.isLt
    have hw := ((((packs_place hs (by decide)).or (lo := 8) (len := 8) (by decide) (fin_lt x.subject (by decide))
      (by decide)).or (v := x.count) (lo := 16) (len := 8) (by decide) (by omega) (by decide)).or
      (v := x.reload) (lo := 24) (len := 8) (by decide) (by omega) (by decide)).1
    simp only [bits_eq_div_mod, hw]
    omega
  · have ht := (tickIdx x.tickSel).isLt
    have hf := filterCode_lt x.filter
    have hi := flag_lt x.idleJob.isSome
    have hw := ((packs_place (len := 8) (fin_lt (tickIdx x.tickSel) (by decide)) (by decide)).or (lo := 8) (by decide)
      hf (by decide)).or (lo := 16) (by decide) hi (by decide)
    rcases hjob : x.idleJob with _ | id
    · rw [hjob] at hw hi
      have hw' := hw.1
      simp only [bits_eq_div_mod, BitVec.or_zero, show (0 : Word) = 0#32 from rfl, hw']
      omega
    · rw [hjob] at hw hi
      have hid := id.isLt
      simp only [bits_eq_div_mod, (hw.or (lo := 24) (by decide) id.isLt (by decide)).1]
      omega

/-- PROBE's words (R175). -/
theorem probeWords_fields (d : DescIdx) (o : Resolution) (hl : o.legList.length ≤ 3) : ∃ w1, probeWords d o =
      w1 :: o.legList.map legWord ∧
    w1.toNat = d.val + 256 * resolutionCode o + 65536 * o.legList.length := by
  refine ⟨_, rfl, ?_⟩
  rw [(((packs_place (len := 8) (fin_lt d (by decide)) (by decide)).or (lo := 8) (by decide) (resolutionCode_lt o)
    (by decide)).or (lo := 16) (len := 2) (by decide) (by omega) (by decide)).1]
  ring

theorem legWord_fields (l : Leg) : bits (legWord l) 0 28 = l.addr.toNat ∧ bits (legWord l) 28 2 = l.target.val ∧
    bits (legWord l) 30 2 = roleCode l.role := by
  have ha := l.addr.isLt
  have ht := l.target.isLt
  have hr := roleCode_lt l.role
  have hw : (legWord l).toNat = _ := (((packs_place l.addr.isLt (by decide)).or (Nat.le_refl 28) (len := 2)
    (fin_lt l.target (Nat.le_refl 4)) (by decide)).or (by decide) (roleCode_lt l.role) (by decide)).1
  simp only [bits_eq_div_mod, hw]
  omega

/-- The third word of QUERY JOB (R176). -/
theorem jobWord3_toNat (j : Job) :
    (place j.desc.val 0 ||| place j.dest.target.val 8 ||| place (modeCode j.mode) 12 ||| originWord j.origin).toNat =
      j.desc.val + 256 * j.dest.target.val + 4096 * modeCode j.mode +
        (match j.origin with
          | .software => 0 | .monitorIdle m => 65536 + 16777216 * m.val | .monitorWake m => 131072 + 16777216 * m.val) := by
  have hm : modeCode j.mode < 2 ^ 4 := by cases j.mode <;> decide
  have hw := ((packs_place (len := 8) (fin_lt j.desc (by decide)) (by decide)).or (lo := 8) (len := 4) (by decide)
    (fin_lt j.dest.target (by decide)) (by decide)).or (lo := 12) (by decide) hm (by decide)
  have horigin (v : Nat) (hv : v < 2 ^ 8) (m : Fin 16) :=
    ((hw.or (v := v) (lo := 16) (by decide) hv (by decide)).or (lo := 24) (len := 8) (by decide)
      (fin_lt m (by decide)) (by decide)).1
  rcases j.origin with _ | m | m
  · refine (congrArg BitVec.toNat BitVec.or_zero).trans (hw.1.trans ?_); ring
  · rw [originWord, ← BitVec.or_assoc, horigin 1 (by decide)]; ring
  · rw [originWord, ← BitVec.or_assoc, horigin 2 (by decide)]; ring

/-- QUERY JOB's words (R176). -/
theorem jobWords_toNat (j : Job) (active started halt : Bool) {position state cursor : Nat} (hp : position ≤ 8)
    (hs : state ≤ 5) (hc : cursor < 2 ^ 23) : ∃ w1 w2 w3 w4,
    jobWords j active position state started halt cursor = [w1, w2, w3, w4] ∧
      w1.toNat = flag active + 16 * position + 256 * state + 4096 * flag started + 8192 * flag halt + 65536 * j.id.toNat ∧
      w2.toNat = cursor ∧
      w3.toNat = j.desc.val + 256 * j.dest.target.val + 4096 * modeCode j.mode +
        (match j.origin with
          | .software => 0 | .monitorIdle m => 65536 + 16777216 * m.val | .monitorWake m => 131072 + 16777216 * m.val) ∧
      w4.toNat = j.dest.base.toNat := by
  refine ⟨_, _, _, _, rfl, ?_, (packs_place hc (by decide)).1, jobWord3_toNat j,
    (packs_place j.dest.base.isLt (by decide)).1⟩
  rw [((((((packs_place (flag_lt active) (by decide)).or (v := position) (lo := 4) (len := 4) (by decide) (by omega)
    (by decide)).or (v := state) (lo := 8) (len := 4) (by decide) (by omega) (by decide)).or (lo := 12) (by decide)
    (flag_lt started) (by decide)).or (lo := 13) (by decide) (flag_lt halt) (by decide)).or (lo := 16) (by decide)
    j.id.isLt (by decide)).1]
  ring

/-! ## The commands -/

/-- A command that changes nothing but its result. -/
theorem writeCommand_reports {code : BitVec 8} {act : Action} {ws : List Word} (hb : s.mgmt.busy = false)
    (h : act (latchCommand code s) = ends (.done ws) (latchCommand code s)) :
    writeCommand code act s = commandEnded code (.done ws) s := writeCommand_taken s hb h

theorem readDescriptor_done {d : DescIdx} (hb : s.mgmt.busy = false) (hd : paramIndex s.mgmt.param = d.val) :
    exec .readDescriptor s = .next (commandEnded 0x05 (.done (descriptorWords d (s.desc d))) s) := by
  rw [exec_readDescriptor]
  exact congrArg _ (writeCommand_reports hb (withIndex_eq hd))

theorem readMonitor_above (hb : s.mgmt.busy = false) (h : 15 < paramMonitor s.mgmt.param) :
    exec .readMonitor s = .next (commandEnded 0x0E (.refused .range) s) := by
  rw [exec_readMonitor]
  exact congrArg _ (writeCommand_refused hb (dif_neg (Nat.not_lt.2 h)))

theorem readMonitor_done {m : Fin 16} (hb : s.mgmt.busy = false) (h : paramMonitor s.mgmt.param = m.val) :
    exec .readMonitor s = .next (commandEnded 0x0E (.done (monitorWords (s.mon m))) s) := by
  rw [exec_readMonitor]
  refine congrArg _ (writeCommand_reports hb ?_)
  have hm : (⟨paramMonitor s.mgmt.param, h ▸ m.isLt⟩ : Fin 16) = m := Fin.ext h
  refine (dif_pos (h ▸ m.isLt : paramMonitor s.mgmt.param < 16)).trans ?_
  simp only [latchCommand_latched, hm, latchCommand_mon]

theorem dirOfCode_eq_none {n : Nat} (h : 1 < n) : dirOfCode n = none := by
  rw [dirOfCode, if_neg (by omega), if_neg (by omega)]

theorem dirOfCode_some (dir : Dir) : dirOfCode (match dir with | .read => 0 | .write => 1) = some dir := by
  cases dir <;> rfl

theorem probe_refused (hb : s.mgmt.busy = false) (h : 2 ^ 28 ≤ (look s.mgmt.param 0).toNat ∨
    3 < bits (look s.mgmt.param 1) 0 8 ∨ 1 < bits (look s.mgmt.param 1) 8 8) :
    exec .probe s = .next (commandEnded 0x06 (.refused .range) s) := by
  rw [exec_probe]
  refine congrArg _ (writeCommand_refused hb ?_)
  unfold probeAct
  dsimp only
  rw [latchCommand_latched]
  split_ifs with ha hi
  · rfl
  · rw [dirOfCode_eq_none (by omega)]
  · rfl

theorem probe_done (hb : s.mgmt.busy = false) (i : Fin 4) (dir : Dir) (ha : (look s.mgmt.param 0).toNat < 2 ^ 28)
    (hi : bits (look s.mgmt.param 1) 0 8 = i.val) (hdir : dirOfCode (bits (look s.mgmt.param 1) 8 8) = some dir) :
    exec .probe s = .next (commandEnded 0x06 (.done (probeWords (winner s (BitVec.ofNat 28 (look s.mgmt.param 0).toNat))
      (resolveOn s (winner s (BitVec.ofNat 28 (look s.mgmt.param 0).toNat)) i dir
        (BitVec.ofNat 28 (look s.mgmt.param 0).toNat)))) s) := by
  rw [exec_probe]
  refine congrArg _ (writeCommand_reports hb ?_)
  have hi' : (⟨bits (look s.mgmt.param 1) 0 8, hi ▸ i.isLt⟩ : Fin 4) = i := Fin.ext hi
  unfold probeAct
  dsimp only
  rw [latchCommand_latched, if_neg (Nat.not_le.2 ha), dif_pos (hi ▸ i.isLt : bits (look s.mgmt.param 1) 0 8 < 4), hdir]
  dsimp only
  rw [hi']
  rfl

theorem queryJob_above (hb : s.mgmt.busy = false) (h : 255 < bits (look s.mgmt.param 0) 0 16) :
    exec .queryJob s = .next (commandEnded 0x09 (.refused .range) s) := by
  rw [exec_queryJob]
  exact congrArg _ (writeCommand_refused hb (if_pos h))

theorem ofNat_eq_iff {n : Nat} (h : n ≤ 255) (id : BitVec 8) : id = BitVec.ofNat 8 n ↔ id.toNat = n := by
  rw [← BitVec.toNat_inj, BitVec.toNat_ofNat, Nat.mod_eq_of_lt (by omega)]

theorem queuedJob_eq_none {n : Nat} (h : n ≤ 255) :
    queuedJob s (BitVec.ofNat 8 n) = none ↔ ∀ q ∈ s.eng.queue, q.id.toNat ≠ n := by
  simp [queuedJob, ofNat_eq_iff h]

theorem activeJob_of_id {n : Nat} {j : Job} (h : n ≤ 255) (hj : s.eng.active = some j) (hid : j.id.toNat = n) :
    activeJob s (BitVec.ofNat 8 n) = some j := by
  rw [activeJob, hj]
  exact if_pos ((ofNat_eq_iff h j.id).2 hid)

theorem activeJob_eq_none {n : Nat} (h : n ≤ 255) (hj : ∀ j, s.eng.active = some j → j.id.toNat ≠ n) :
    activeJob s (BitVec.ofNat 8 n) = none := by
  unfold activeJob
  split
  · next j hs => exact if_neg fun hid => hj j hs ((ofNat_eq_iff h j.id).1 hid)
  · rfl

/-- The first of a list that meets a test, and its place. -/
theorem find_first {α : Type} (p : α → Bool) (pre : List α) (a : α) (post : List α) (hpre : ∀ b ∈ pre, p b = false)
    (ha : p a = true) : (pre ++ a :: post).find? p = some a ∧ (pre ++ a :: post).findIdx p = pre.length := by
  induction pre with
  | nil => simp [ha, List.findIdx_cons]
  | cons b pre ih =>
    obtain ⟨hfind, hidx⟩ := ih fun c hc => hpre c (List.mem_cons_of_mem b hc)
    have hb := hpre b (List.mem_cons_self ..)
    simp [hb, hfind, hidx, List.findIdx_cons]

theorem queryJob_notFound (hb : s.mgmt.busy = false) (h : bits (look s.mgmt.param 0) 0 16 ≤ 255)
    (hn : ∀ j ∈ s.eng.jobs, j.id.toNat ≠ bits (look s.mgmt.param 0) 0 16) :
    exec .queryJob s = .next (commandEnded 0x09 (.refused .notFound) s) := by
  have hqueue : queuedJob (latchCommand 0x09 s) (BitVec.ofNat 8 (bits (look s.mgmt.param 0) 0 16)) = none :=
    (queuedJob_eq_none h).2 fun q hq => hn q (List.mem_append_left _ hq)
  have hactive : activeJob (latchCommand 0x09 s) (BitVec.ofNat 8 (bits (look s.mgmt.param 0) 0 16)) = none :=
    activeJob_eq_none h fun j hj => hn j (List.mem_append_right _ (by
      rw [show s.eng.active = some j from hj]; exact List.mem_singleton.2 rfl))
  rw [exec_queryJob]
  refine congrArg _ (writeCommand_refused hb ?_)
  unfold queryJobAct
  dsimp only
  rw [latchCommand_latched, if_neg (Nat.not_lt.2 h), hqueue, hactive]

theorem queryJob_queued (hb : s.mgmt.busy = false) {pre post : List Job} {j : Job} (hq : s.eng.queue = pre ++ j :: post)
    (hid : j.id.toNat = bits (look s.mgmt.param 0) 0 16)
    (hpre : ∀ q ∈ pre, q.id.toNat ≠ bits (look s.mgmt.param 0) 0 16) :
    exec .queryJob s = .next (commandEnded 0x09 (.done
      (jobWords j false (pre.length + 1) 0 false s.eng.haltPending 0)) s) := by
  have h : bits (look s.mgmt.param 0) 0 16 ≤ 255 := by have := j.id.isLt; omega
  have hj : j.id = BitVec.ofNat 8 (bits (look s.mgmt.param 0) 0 16) := (ofNat_eq_iff h j.id).2 hid
  obtain ⟨hfind, hidx⟩ := find_first (fun q : Job => decide (q.id = j.id)) pre j post
    (fun q hq => decide_eq_false fun he => hpre q hq (by rw [he, hid])) (decide_eq_true rfl)
  have hqueue : queuedJob (latchCommand 0x09 s) (BitVec.ofNat 8 (bits (look s.mgmt.param 0) 0 16)) = some j := by
    rw [queuedJob, latchCommand_eng, hq, ← hj]; exact hfind
  rw [exec_queryJob]
  refine congrArg _ (writeCommand_reports hb ?_)
  unfold queryJobAct
  dsimp only
  rw [latchCommand_latched, if_neg (Nat.not_lt.2 h), hqueue, latchCommand_eng, hq]
  dsimp only
  rw [hidx]

theorem queryJob_active (hb : s.mgmt.busy = false) {j : Job} (hj : s.eng.active = some j)
    (hid : j.id.toNat = bits (look s.mgmt.param 0) 0 16)
    (hq : ∀ q ∈ s.eng.queue, q.id.toNat ≠ bits (look s.mgmt.param 0) 0 16) :
    exec .queryJob s = .next (commandEnded 0x09 (.done (jobWords j true 0 (engStateCode s.eng.state) s.eng.started
      s.eng.haltPending (if s.eng.started = true then s.eng.cursor else 0))) s) := by
  have h : bits (look s.mgmt.param 0) 0 16 ≤ 255 := by have := j.id.isLt; omega
  have hqueue : queuedJob (latchCommand 0x09 s) (BitVec.ofNat 8 (bits (look s.mgmt.param 0) 0 16)) = none :=
    (queuedJob_eq_none h).2 hq
  have hactive : activeJob (latchCommand 0x09 s) (BitVec.ofNat 8 (bits (look s.mgmt.param 0) 0 16)) = some j :=
    activeJob_of_id h hj hid
  rw [exec_queryJob]
  refine congrArg _ (writeCommand_reports hb ?_)
  unfold queryJobAct
  dsimp only
  rw [latchCommand_latched, if_neg (Nat.not_lt.2 h), hqueue, hactive]
  rfl

/-! ## The reports as they are specified -/

theorem permCode_eq (q : Perm) : permCode q = match q with | .none => 0 | .read => 1 | .readWrite => 2 := by
  cases q <;> rfl

/-- What the word of a route with a window, or without one, says (R174). -/
theorem windowWord_read (r : ReadRoute) : match r with
    | .fault => windowWord r.win = 0
    | .window w => bits (windowWord r.win) 0 28 = w.base.toNat ∧ bits (windowWord r.win) 28 2 = w.target.val ∧
      bits (windowWord r.win) 30 2 = 0 := by
  cases r with
  | fault => rfl
  | window w => exact windowWord_fields w

theorem windowWord_write (r : WriteRoute) : match r with
    | .fault => windowWord r.win = 0
    | .discard => windowWord r.win = 0
    | .window w => bits (windowWord r.win) 0 28 = w.base.toNat ∧ bits (windowWord r.win) 28 2 = w.target.val ∧
      bits (windowWord r.win) 30 2 = 0 := by
  cases r with
  | fault => rfl
  | discard => rfl
  | window w => exact windowWord_fields w

theorem windowWord_mirror (m : Option Window) : match m with
    | none => windowWord m = 0
    | some w => bits (windowWord m) 0 28 = w.base.toNat ∧ bits (windowWord m) 28 2 = w.target.val ∧
      bits (windowWord m) 30 2 = 0 := by
  cases m with
  | none => rfl
  | some w => exact windowWord_fields w

/-- Settles O19. -/
theorem readingCommandsReportAndChangeNothing : Obligations.ReadingCommandsReportAndChangeNothing := by
  refine ⟨fun s d hb hd => readDescriptor_done hb hd, fun s hb => ⟨fun h => readMonitor_above hb h, fun m h =>
    readMonitor_done hb h⟩, fun s hb => ⟨fun h => probe_refused hb h, fun i dir ha hi hdir => ?_⟩,
    fun s hb => ⟨fun h => queryJob_above hb h, fun h hn => queryJob_notFound hb h hn, fun pre j post hq hid hpre =>
      queryJob_queued hb hq hid hpre, fun j hj hid hq => queryJob_active hb hj hid hq⟩,
    fun d x hz hc hp => ?_, fun x hc hr => ?_, fun d o => ?_, fun j active started halt position state cursor hp hs hc => ?_⟩
  · exact probe_done hb i dir ha hi (by rw [hdir]; cases dir <;> rfl)
  · obtain ⟨w1, w2, w6, hw, ⟨h1, h2, hperm, hread, hwrite, hmirror, hsw, h31⟩, ⟨hbase, hstate, h231⟩,
      hgen, hcur, h14, hprev, h22, hout, hreason, h30⟩ := descriptorWords_fields d x hz hc hp
    refine ⟨w1, w2, _, _, _, w6, _, hw, h1, h2, fun i => ?_, ?_, ?_, ?_, hsw, h31, hbase, ?_, h231, ?_, ?_, ?_, hgen, hcur,
      h14, hprev, h22, ?_, ?_, h30, fun r n ho hn => ?_, fun ho => ?_⟩
    · rw [hperm]; cases look x.perms i <;> rfl
    · rw [hread]; cases x.read <;> rfl
    · rw [hwrite]; cases x.write <;> rfl
    · rw [hmirror]; cases x.mirror <;> rfl
    · rw [hstate]; cases x.state <;> rfl
    · exact windowWord_read x.read
    · exact windowWord_write x.write
    · exact windowWord_mirror x.mirror
    · rw [hout]; cases x.outcome <;> rfl
    · rw [hreason]
      rcases x.outcome with _ | _ | ⟨r, n⟩ | r
      · rfl
      · rfl
      · cases r <;> rfl
      · cases r <;> rfl
    · rw [ho]; exact (packs_place (v := n) hn (by decide)).1
    · rcases hx : x.outcome with _ | _ | ⟨r, n⟩ | r
      · rfl
      · rfl
      · exact absurd hx (ho r n)
      · rfl
  · obtain ⟨w1, w2, hw, ⟨hstate, h2, hsub, hcount, hreload⟩, htick, hfilter, hflag, h17, hid⟩ :=
      monitorWords_fields x hc hr
    refine ⟨w1, w2, _, _, _, _, hw, ?_, h2, hsub, hcount, hreload, ?_, ?_, hflag, h17, hid, ?_, ?_⟩
    · rw [hstate]; cases x.state <;> rfl
    · rw [htick]; cases x.tickSel <;> rfl
    · rw [hfilter]; cases x.filter <;> rfl
    · exact template_words x.idleT
    · exact template_words x.wakeT
  · intro ls hl
    have hls : o.legList = ls := by cases o <;> rfl
    obtain ⟨w1, hw, h1⟩ := probeWords_fields d o (hls ▸ hl)
    rw [hls] at hw h1
    refine ⟨w1, _, hw, ?_, List.length_map _, fun k l w hk hwk => ?_⟩
    · rw [h1]; cases o <;> rfl
    · rw [List.getElem?_map, hk] at hwk
      obtain rfl : legWord l = w := Option.some.inj hwk
      obtain ⟨ha, ht, hr⟩ := legWord_fields l
      refine ⟨ha, ht, ?_⟩
      rw [hr]; cases l.role <;> rfl
  · obtain ⟨w1, w2, w3, w4, hw, h1, h2, h3, h4⟩ := jobWords_toNat j active started halt hp hs hc
    refine ⟨w1, w2, w3, w4, hw, h1, h2, ?_, h4⟩
    rw [h3, modeCode_eq] <;> rfl

end Sys2Proof.Machine
end

section
/-! SUPPORT. The fields that STAGE and SET MONITOR take are the fields that READ DESCRIPTOR and READ MONITOR report
(R173, R174, R177). -/

namespace Sys2Proof.Machine

variable {p : Vector Word 6}

/-! ## A code names what has that code -/

theorem permCode_of_permOfCode {c : Nat} {q : Perm} (h : permOfCode c = some q) : permCode q = c := by
  unfold permOfCode at h
  split_ifs at h with h0 h1 h2
  all_goals cases h; simp only [permCode, *]

theorem modeCode_of_modeOfCode {c : Nat} {m : Mode} (h : modeOfCode c = some m) : modeCode m = c := by
  unfold modeOfCode at h
  split_ifs at h with h0 h1
  all_goals cases h; simp only [modeCode, *]

theorem tickIdx_of_tickOfCode {c : Nat} {src : TickSel} (h : tickOfCode c = some src) : (tickIdx src).val = c := by
  unfold tickOfCode at h
  split_ifs at h with h0 h1 h2 h3
  all_goals cases h; subst c; rfl

theorem filterCode_of_filterOfCode {c : Nat} {f : Filter} (h : filterOfCode c = some f) : filterCode f = c := by
  unfold filterOfCode at h
  split_ifs at h with h0 h1 h2
  all_goals cases h; simp only [filterCode, *]

/-! ## The routes and permissions -/

/-- The read route reads back (R174). -/
theorem parseRead_fields {r : ReadRoute} (h : parseRead p = some r) : readKind r = bits (look p 0) 24 2 ∧
    windowWord r.win = if bits (look p 0) 24 2 = 2 then look p 2 ||| place (bits (look p 5) 0 8) 28 else 0 := by
  unfold parseRead at h
  dsimp only at h
  split_ifs at h with h0 h2
  · cases h; rw [h0]; exact ⟨rfl, rfl⟩
  · obtain ⟨w, hw, rfl⟩ := Option.map_eq_some_iff.1 h
    rw [h2]; exact ⟨rfl, windowWord_windowOf hw⟩

/-- The write route reads back (R174). -/
theorem parseWrite_fields {r : WriteRoute} (h : parseWrite p = some r) : writeKind r = bits (look p 0) 26 2 ∧
    windowWord r.win = if bits (look p 0) 26 2 = 2 then look p 3 ||| place (bits (look p 5) 8 8) 28 else 0 := by
  unfold parseWrite at h
  dsimp only at h
  split_ifs at h with h0 h1 h2
  · cases h; rw [h0]; exact ⟨rfl, rfl⟩
  · cases h; rw [h1]; exact ⟨rfl, rfl⟩
  · obtain ⟨w, hw, rfl⟩ := Option.map_eq_some_iff.1 h
    rw [h2]; exact ⟨rfl, windowWord_windowOf hw⟩

/-- The mirror route reads back (R174). -/
theorem parseMirror_fields {m : Option Window} (h : parseMirror p = some m) : mirrorKind m = bits (look p 0) 28 2 ∧
    windowWord m = if bits (look p 0) 28 2 = 2 then look p 4 ||| place (bits (look p 5) 16 8) 28 else 0 := by
  unfold parseMirror at h
  dsimp only at h
  split_ifs at h with h2 h3
  · obtain ⟨w, hw, rfl⟩ := Option.map_eq_some_iff.1 h
    rw [h2]; exact ⟨rfl, windowWord_windowOf hw⟩
  · cases h; rw [h3]; exact ⟨rfl, rfl⟩

/-- The permissions read back (R174). -/
theorem parsePerms_fields {q : Vector Perm 4} (h : parsePerms p = some q) :
    permCode (look q 0) = bits (look p 0) 16 2 ∧ permCode (look q 1) = bits (look p 0) 18 2 ∧
      permCode (look q 2) = bits (look p 0) 20 2 ∧ permCode (look q 3) = bits (look p 0) 22 2 := by
  unfold parsePerms at h
  split at h
  · next ha hb hc hd =>
    cases h
    exact ⟨permCode_of_permOfCode ha, permCode_of_permOfCode hb, permCode_of_permOfCode hc, permCode_of_permOfCode hd⟩
  · cases h

/-- The fields of STAGE each come from their own parameter words (R14). -/
theorem parseRoutes_fields {f : RouteFields} (h : parseRoutes p = some f) : parseRead p = some f.read ∧
    parseWrite p = some f.write ∧ parseMirror p = some f.mirror ∧ parsePerms p = some f.perms := by
  unfold parseRoutes at h
  split at h
  · next hr hw hm hq => cases h; exact ⟨hr, hw, hm, hq⟩
  · cases h

theorem parseStage_fields {base : Addr} {size : Nat} {f : RouteFields} (h : parseStage p = some (base, size, f)) :
    base.toNat = (look p 1).toNat ∧ size = bits (look p 0) 8 8 ∧ parseRoutes p = some f := by
  unfold parseStage at h
  split at h
  · next hc =>
    obtain ⟨f', hf, he⟩ := Option.map_eq_some_iff.1 h
    cases he
    exact ⟨by rw [BitVec.toNat_ofNat, Nat.mod_eq_of_lt hc.1], rfl, hf⟩
  · cases h

/-! ## READ DESCRIPTOR after STAGE -/

/-- RESULT1 is PARAM0 without its two topmost bits: index, size, permissions and kinds stand where they stood, and the
switching bit is 0 (R173, R174). -/
theorem staged_descriptorWord1 {d : DescIdx} {x : Desc} {base : Addr} {size : Nat} {f : RouteFields}
    (h : parseStage p = some (base, size, f)) (hd : paramIndex p = d.val) :
    (descriptorWords d (x.staged base size f))[0]? = some (look p 0 &&& 0x3FFFFFFF) := by
  obtain ⟨-, hsize, hf⟩ := parseStage_fields h
  obtain ⟨hread, hwrite, hmirror, hperms⟩ := parseRoutes_fields hf
  obtain ⟨hq0, hq1, hq2, hq3⟩ := parsePerms_fields hperms
  simp only [descriptorWords, Desc.staged, List.getElem?_cons_zero, ← hd, paramIndex, hsize, hq0, hq1, hq2, hq3,
    (parseRead_fields hread).1, (parseWrite_fields hwrite).1, (parseMirror_fields hmirror).1]
  rw [place_bits]
  simp only [and_or_place_bits]
  exact congrArg some ((or_place_zero _ 30).trans (congrArg (look p 0 &&& ·) (by decide)))

/-- Every word but the last two is a parameter word, or made of two (R174). -/
theorem staged_descriptorWords {d : DescIdx} (x : Desc) {base : Addr} {size : Nat} {f : RouteFields}
    (h : parseStage p = some (base, size, f)) (hd : paramIndex p = d.val) :
    ∃ w6 w7, descriptorWords d (x.staged base size f) =
      [ look p 0 &&& 0x3FFFFFFF
      , look p 1 ||| 0x10000000
      , if bits (look p 0) 24 2 = 2 then look p 2 ||| place (bits (look p 5) 0 8) 28 else 0
      , if bits (look p 0) 26 2 = 2 then look p 3 ||| place (bits (look p 5) 8 8) 28 else 0
      , if bits (look p 0) 28 2 = 2 then look p 4 ||| place (bits (look p 5) 16 8) 28 else 0
      , w6, w7 ] := by
  obtain ⟨hbase, -, hf⟩ := parseStage_fields h
  obtain ⟨hread, hwrite, hmirror, -⟩ := parseRoutes_fields hf
  have hword2 : place base.toNat 0 ||| place (descStateCode .staged) 28 = look p 1 ||| 0x10000000 := by
    rw [hbase, place_toNat_self]; rfl
  rw [← Option.some.inj (staged_descriptorWord1 (x := x) h hd), ← hword2, ← (parseRead_fields hread).2,
    ← (parseWrite_fields hwrite).2, ← (parseMirror_fields hmirror).2]
  exact ⟨_, _, rfl⟩

/-! ## READ MONITOR after SET MONITOR -/

/-- A template reads back, as zero where it is absent (R177). -/
theorem parseTemplate_fields {a b : Word} {o : Option Template} (h : parseTemplate a b = some o) :
    templateWord o = (if bits a 0 8 = 1 then a &&& 0xFFFFFF else 0) ∧
      templateBase o = if bits a 0 8 = 1 then b else 0 := by
  unfold parseTemplate at h
  dsimp only at h
  split_ifs at h with h0 h1
  · cases h; rw [h0]; exact ⟨rfl, rfl⟩
  · rw [if_pos h1, if_pos h1]
    split at h
    · next w m hw hm =>
      cases h
      obtain ⟨htarget, hbase⟩ := windowOf_fields hw
      rw [templateWord, templateBase, htarget, hbase, modeCode_of_modeOfCode hm, ← h1, place_bits]
      simp only [and_or_place_bits]
      exact ⟨congrArg (a &&& ·) (by decide), place_toNat_self b⟩
    · cases h

theorem parseMonitor_fields {f : MonitorFields} (h : parseMonitor p = some f) :
    f.reload = bits (look p 0) 16 16 ∧ tickOfCode (bits (look p 1) 0 8) = some f.tickSel ∧
      filterOfCode (bits (look p 1) 8 8) = some f.filter ∧ parseTemplate (look p 2) (look p 3) = some f.idleT ∧
      parseTemplate (look p 4) (look p 5) = some f.wakeT := by
  unfold parseMonitor at h
  dsimp only at h
  split at h
  · cases h
  · split at h
    · next ht hf hi hw => cases h; exact ⟨rfl, ht, hf, hi, hw⟩
    · cases h

/-- READ MONITOR reports a monitor just bound with the fields of the command (R177). -/
theorem bound_monitorWords (d : Fin 64) {f : MonitorFields} (h : parseMonitor p = some f) :
    monitorWords (Monitor.bound d f) =
      [ place 1 0 ||| place d.val 8 ||| place (bits (look p 0) 16 16) 16 ||| place (bits (look p 0) 16 16) 24
      , look p 1 &&& 0xFFFF
      , if bits (look p 2) 0 8 = 1 then look p 2 &&& 0xFFFFFF else 0
      , if bits (look p 2) 0 8 = 1 then look p 3 else 0
      , if bits (look p 4) 0 8 = 1 then look p 4 &&& 0xFFFFFF else 0
      , if bits (look p 4) 0 8 = 1 then look p 5 else 0 ] := by
  obtain ⟨hreload, htick, hfilter, hidle, hwake⟩ := parseMonitor_fields h
  obtain ⟨hidleWord, hidleBase⟩ := parseTemplate_fields hidle
  obtain ⟨hwakeWord, hwakeBase⟩ := parseTemplate_fields hwake
  have hword2 : place (tickIdx f.tickSel).val 0 ||| place (filterCode f.filter) 8 ||| place (flag false) 16 ||| 0 =
      look p 1 &&& 0xFFFF := by
    rw [tickIdx_of_tickOfCode htick, filterCode_of_filterOfCode hfilter, place_bits, and_or_place_bits]
    exact BitVec.or_zero.trans ((or_place_zero _ 16).trans (congrArg (look p 1 &&& ·) (by decide)))
  rw [← hreload, ← hword2, ← hidleWord, ← hidleBase, ← hwakeWord, ← hwakeBase]
  rfl

/-- Settles O20: a word packed of one word's fields in their own places is that word under a mask. -/
theorem stagedAndMonitorFieldsReadBack : Obligations.StagedAndMonitorFieldsReadBack :=
  ⟨fun _ _ x _ _ _ h hd => staged_descriptorWords x h hd, fun _ d _ h => bound_monitorWords d h⟩

end Sys2Proof.Machine
end

section
/-! SUPPORT. The Resolver: the winner of an address is its smallest candidate, and the outcome on it takes the steps of
R31 in order (chapter 2). -/

namespace Sys2Proof.Machine

variable {s : State}

/-! ## The winner (R29, R30) -/

/-- No candidate is held best only when there was none before and this one is none (R29). -/
theorem betterCandidate_eq_none {a : Addr} {best : Option (Fin 64)} {d : Fin 64} :
    betterCandidate s a best d = none ↔ best = none ∧ (s.desc (ordIdx d)).candidate a = false := by
  unfold betterCandidate
  split
  · next h =>
    cases best with
    | none => simp [h]
    | some e => dsimp only; split <;> simp
  · next h => simp [h]

/-- The candidate held best is no larger than the one held before, nor than the one just looked at (R30). -/
theorem betterCandidate_size_le {a : Addr} {best : Option (Fin 64)} {d f : Fin 64}
    (h : betterCandidate s a best d = some f) :
    (∀ e, best = some e → (s.desc (ordIdx f)).size ≤ (s.desc (ordIdx e)).size) ∧
      ((s.desc (ordIdx d)).candidate a = true → (s.desc (ordIdx f)).size ≤ (s.desc (ordIdx d)).size) := by
  unfold betterCandidate at h
  split at h
  · split at h
    · cases h; exact ⟨nofun, fun _ => le_rfl⟩
    · next e =>
      split at h <;> cases h
      · next hlt => exact ⟨by rintro _ ⟨⟩; exact hlt.le, fun _ => le_rfl⟩
      · next hlt => exact ⟨by rintro _ ⟨⟩; exact le_rfl, fun _ => not_lt.1 hlt⟩
  · next hc => exact ⟨by rintro _ rfl; cases h; exact le_rfl, fun hd => absurd hd hc⟩

theorem foldl_betterCandidate_eq_none {a : Addr} (l : List (Fin 64)) (best : Option (Fin 64)) :
    l.foldl (betterCandidate s a) best = none ↔
      best = none ∧ ∀ e ∈ l, (s.desc (ordIdx e)).candidate a = false := by
  induction l generalizing best with
  | nil => simp
  | cons d l ih => rw [List.foldl_cons, ih, betterCandidate_eq_none, List.forall_mem_cons, and_assoc]

theorem foldl_betterCandidate_size_le {a : Addr} (l : List (Fin 64)) (best : Option (Fin 64)) {f : Fin 64}
    (h : l.foldl (betterCandidate s a) best = some f) :
    (∀ e, best = some e → (s.desc (ordIdx f)).size ≤ (s.desc (ordIdx e)).size) ∧
      ∀ e ∈ l, (s.desc (ordIdx e)).candidate a = true → (s.desc (ordIdx f)).size ≤ (s.desc (ordIdx e)).size := by
  induction l generalizing best with
  | nil => exact ⟨by rintro e rfl; cases h; exact le_rfl, by simp⟩
  | cons d l ih =>
    obtain ⟨hheld, hrest⟩ := ih _ h
    cases hb : betterCandidate s a best d with
    | none =>
      obtain ⟨hnone, hd⟩ := betterCandidate_eq_none.1 hb
      exact ⟨by simp [hnone], by simpa [hd] using hrest⟩
    | some g =>
      obtain ⟨hbest, hlooked⟩ := betterCandidate_size_le hb
      have hfg := hheld g hb
      exact ⟨fun e he => hfg.trans (hbest e he),
        List.forall_mem_cons.2 ⟨fun hd => hfg.trans (hlooked hd), hrest⟩⟩

/-- The floor wins when no ordinary descriptor is a candidate; else the winner is a candidate of the smallest size. -/
theorem winner_cases (s : State) (a : Addr) :
    ((∀ d, (s.desc (ordIdx d)).candidate a = false) ∧ winner s a = floorIdx) ∨
      ∃ d, winner s a = ordIdx d ∧ (s.desc (ordIdx d)).candidate a = true ∧
        ∀ e, (s.desc (ordIdx e)).candidate a = true → (s.desc (ordIdx d)).size ≤ (s.desc (ordIdx e)).size := by
  unfold winner
  split
  · next d h =>
    exact .inr ⟨d, rfl, candidate_of_foldl a ordinaries none d nofun h,
      fun e => (foldl_betterCandidate_size_le ordinaries none h).2 e (mem_ordinaries e)⟩
  · next h =>
    exact .inl ⟨fun d => ((foldl_betterCandidate_eq_none ordinaries none).1 h).2 d (mem_ordinaries d), rfl⟩

/-- An address lies in one aligned block of each size, so it gives an aligned region that contains it its base (R2). -/
theorem base_of_contains {x : Desc} {a : Addr} (hc : x.contains a = true) (hal : x.base.toNat % 2 ^ x.size = 0) :
    x.base.toNat = 2 ^ x.size * (a.toNat / 2 ^ x.size) := by
  simp only [Desc.contains, Bool.and_eq_true, decide_eq_true_eq] at hc
  obtain ⟨q, hq⟩ := Nat.dvd_of_mod_eq_zero hal
  have hdiv : a.toNat / 2 ^ x.size = q :=
    Nat.div_eq_of_lt_le (by rw [mul_comm]; omega) (by rw [Nat.succ_mul, mul_comm]; omega)
  rw [hdiv, hq]

/-- Two candidates for one address differ in size (R16, R30). -/
theorem candidates_size_ne (hal : RegionsAligned s) (hdis : RegionsDistinct s) {a : Addr} {d e : Fin 64} (hne : e ≠ d)
    (hd : (s.desc (ordIdx d)).candidate a = true) (he : (s.desc (ordIdx e)).candidate a = true) :
    (s.desc (ordIdx d)).size ≠ (s.desc (ordIdx e)).size := by
  intro hsize
  simp only [Desc.candidate, Bool.and_eq_true] at hd he
  have hdUse : (s.desc (ordIdx d)).holdsRegion = true := by simp [Desc.holdsRegion, hd.1]
  have heUse : (s.desc (ordIdx e)).holdsRegion = true := by simp [Desc.holdsRegion, he.1]
  have hdBase := base_of_contains hd.2 ((hal d).2.2 hdUse)
  have heBase := base_of_contains he.2 ((hal e).2.2 heUse)
  refine hdis d e hne.symm hdUse heUse ⟨BitVec.eq_of_toNat_eq ?_, hsize⟩
  rw [hdBase, heBase, hsize]

/-- Settles O15: the lookup keeps the smallest candidate, and aligned regions that share an address and a size are one
region. -/
theorem winnerIsTheSmallestCandidate : Obligations.WinnerIsTheSmallestCandidate := by
  intro s a hal hdis
  rcases winner_cases s a with ⟨hnone, hfloor⟩ | ⟨d, hwin, hd, hmin⟩
  · exact ⟨fun _ => hfloor, fun ⟨d, hd⟩ => absurd hd (by simp [hnone d])⟩
  · refine ⟨fun hnone => absurd hd (by simp [hnone d]), fun _ => ⟨d, hwin, hd, fun e he hne => ?_⟩⟩
    exact (hmin e he).lt_of_ne (candidates_size_ne hal hdis hne hd he)

/-! ## The outcome of a resolution (R31) -/

theorem Perm.allows_iff {p : Perm} {dir : Dir} :
    p.allows dir = true ↔ p = .readWrite ∨ p = .read ∧ dir = .read := by
  cases p <;> cases dir <;> decide

theorem Perm.allows_eq_false_iff {p : Perm} {dir : Dir} :
    p.allows dir = false ↔ p = .none ∨ p = .read ∧ dir = .write := by
  cases p <;> cases dir <;> decide

theorem heldByLine_iff {x : Desc} {line : Nat} : heldByLine s x line = true ↔
    x.state = .migrating ∧ s.eng.active.isSome = true ∧ s.eng.lineInFlight = some line := by
  simp [heldByLine, and_assoc]

section
variable {d : DescIdx} {i : Fin 4} {a : Addr}

/-- Step 1: a switching winner holds every transaction. -/
theorem resolveOn_switching (dir : Dir) (hs : (s.desc d).switching = true) : resolveOn s d i dir a = .heldSwitch := by
  cases dir
  · simp [resolveOn, resolveRead, hs]
  · simp [resolveOn, resolveWrite, hs]

/-- Step 2 for a read. -/
theorem resolveOn_readFault (hs : (s.desc d).switching = false) (hr : (s.desc d).read = .fault) :
    resolveOn s d i .read a = .readFault := by
  simp [resolveOn, resolveRead, hs, hr]

/-- Step 2 for a write. -/
theorem resolveOn_writeFault (hs : (s.desc d).switching = false) (hw : (s.desc d).write = .fault) :
    resolveOn s d i .write a = .writeFault := by
  simp [resolveOn, resolveWrite, hs, hw]

/-- Step 3: a route that is no fault, and a permission that does not allow the direction. -/
theorem resolveOn_denied {dir : Dir} (hs : (s.desc d).switching = false)
    (hroute : dir = .read ∧ (s.desc d).read ≠ .fault ∨ dir = .write ∧ (s.desc d).write ≠ .fault)
    (hp : (look (s.desc d).perms i).allows dir = false) : resolveOn s d i dir a = .denied := by
  rcases hroute with ⟨rfl, hr⟩ | ⟨rfl, hw⟩
  · cases h : (s.desc d).read with
    | fault => exact absurd h hr
    | window w => simp [resolveOn, resolveRead, hs, h, hp]
  · cases h : (s.desc d).write with
    | fault => exact absurd h hw
    | discard => simp [resolveOn, resolveWrite, hs, h, hp]
    | window w => simp [resolveOn, resolveWrite, hs, h, hp]

/-- A read that is allowed forms the one READ leg (R35). -/
theorem resolveOn_readLeg {w : Window} (hs : (s.desc d).switching = false) (hr : (s.desc d).read = .window w)
    (hp : (look (s.desc d).perms i).allows .read = true) :
    resolveOn s d i .read a = .legs [⟨.read, w.target, (s.desc d).translate w a, .ungranted⟩] := by
  simp [resolveOn, resolveRead, hs, hr, hp]

/-- Step 4: a write that is allowed is discarded by a DISCARD route (R36). -/
theorem resolveOn_discard (hs : (s.desc d).switching = false) (hw : (s.desc d).write = .discard)
    (hp : (look (s.desc d).perms i).allows .write = true) : resolveOn s d i .write a = .discard := by
  simp [resolveOn, resolveWrite, hs, hw, hp]

/-- Steps 5 and 6 for a write: the line in flight holds it, or its legs are formed. -/
theorem resolveOn_writeWindow {w : Window} (hs : (s.desc d).switching = false) (hw : (s.desc d).write = .window w)
    (hp : (look (s.desc d).perms i).allows .write = true) : resolveOn s d i .write a =
      if heldByLine s (s.desc d) ((s.desc d).lineOf a) = true then .heldLine ((s.desc d).lineOf a)
      else .legs (writeLegs s (s.desc d) w a) := by
  simp [resolveOn, resolveWrite, hs, hw, hp]

end

/-! ## The legs (R35, R37, R39) -/

/-- A write reaches the source by its own window or by the mirror (R39). -/
theorem reachesSource_iff {x : Desc} {w : Window} :
    x.reachesSource w = true ↔ x.read = .window w ∨ ∃ m, x.mirror = some m ∧ x.read = .window m := by
  unfold Desc.reachesSource
  split
  · next h => simp [h]
  · next r h => simp [h, eq_comm (a := w)]

/-- The condition under which a write gains a destination leg, with the job that copies (R39). -/
def GainsDestination (s : State) (x : Desc) (w : Window) (a : Addr) (j : Job) : Prop :=
  s.eng.active = some j ∧ x.state = .migrating ∧
    (x.read = .window w ∨ ∃ m, x.mirror = some m ∧ x.read = .window m) ∧ x.lineOf a < s.eng.cursor

theorem destinationLeg_cases (s : State) (x : Desc) (w : Window) (a : Addr) :
    (∃ j, GainsDestination s x w a j ∧
        destinationLeg s x w a = [⟨.destination, j.dest.target, x.translate j.dest a, .ungranted⟩]) ∨
      (¬∃ j, GainsDestination s x w a j) ∧ destinationLeg s x w a = [] := by
  unfold destinationLeg
  split
  · next hj => exact .inr ⟨by simp [GainsDestination, hj], rfl⟩
  · next j hj =>
    split
    · next hc => rw [reachesSource_iff] at hc; exact .inl ⟨j, ⟨hj, hc⟩, rfl⟩
    · next hc => rw [reachesSource_iff] at hc; exact .inr ⟨fun ⟨_, _, hk⟩ => hc hk, rfl⟩

/-- A write has one to three legs (R37). -/
theorem writeLegs_length (s : State) (x : Desc) (w : Window) (a : Addr) :
    1 ≤ (writeLegs s x w a).length ∧ (writeLegs s x w a).length ≤ 3 := by
  have hmirror : x.mirror.toList.length ≤ 1 := by cases x.mirror <;> simp
  have hdest : (destinationLeg s x w a).length ≤ 1 := by
    rcases destinationLeg_cases s x w a with ⟨j, _, h⟩ | ⟨_, h⟩ <;> simp [h]
  simp only [writeLegs, List.length_cons, List.length_append, List.length_map]
  omega

/-- Settles O16: one equation for each step of a resolution. -/
theorem resolutionTakesTheStepsInOrder : Obligations.ResolutionTakesTheStepsInOrder := by
  intro s d i dir a
  refine ⟨resolveOn_switching dir, fun hs => ⟨?_, ?_, fun hroute => ⟨fun hp => ?_, fun hp => ⟨?_, ?_⟩⟩⟩⟩
  · rintro rfl; exact resolveOn_readFault hs
  · rintro rfl; exact resolveOn_writeFault hs
  · exact resolveOn_denied hs hroute (Perm.allows_eq_false_iff.2 hp)
  · rintro rfl
    cases hr : (s.desc d).read with
    | fault => simp [hr] at hroute
    | window w => exact ⟨_, resolveOn_readLeg hs hr (Perm.allows_iff.2 hp)⟩
  · rintro rfl
    have hallow := Perm.allows_iff.2 hp
    refine ⟨fun hw => resolveOn_discard hs hw hallow, fun hnot => ?_⟩
    cases hw : (s.desc d).write with
    | fault => simp [hw] at hroute
    | discard => exact absurd hw hnot
    | window w =>
      have hstep := resolveOn_writeWindow (a := a) hs hw hallow
      rw [← heldByLine_iff]
      exact ⟨fun hl => hstep.trans (if_pos hl), fun hl => ⟨_, hstep.trans (if_neg hl), writeLegs_length s _ w a⟩⟩

/-- Legs of a read are formed on a read window alone (R35). -/
theorem legs_of_read {d : DescIdx} {i : Fin 4} {a : Addr} {ls : List Leg} (h : resolveOn s d i .read a = .legs ls) :
    ∃ w, (s.desc d).read = .window w ∧ ls = [⟨.read, w.target, (s.desc d).translate w a, .ungranted⟩] := by
  simp only [resolveOn, resolveRead] at h
  split at h
  · cases h
  · split at h
    · cases h
    · next w hr => split at h <;> cases h; exact ⟨w, hr, rfl⟩

/-- Legs of a write are formed on a write window alone (R37). -/
theorem legs_of_write {d : DescIdx} {i : Fin 4} {a : Addr} {ls : List Leg} (h : resolveOn s d i .write a = .legs ls) :
    ∃ w, (s.desc d).write = .window w ∧ ls = writeLegs s (s.desc d) w a := by
  simp only [resolveOn, resolveWrite] at h
  split at h
  · cases h
  · split at h
    · cases h
    · split at h <;> cases h
    · next w hw =>
      split at h
      · cases h
      · split at h <;> cases h; exact ⟨w, hw, rfl⟩

/-- Settles O17: the legs are those that `writeLegs` lists, with a destination leg in the one case of R39. -/
theorem legsGoToTheirWindows : Obligations.LegsGoToTheirWindows := by
  intro s d i a ls
  refine ⟨legs_of_read, fun h => ?_⟩
  obtain ⟨w, hw, rfl⟩ := legs_of_write h
  refine ⟨w, hw, ?_⟩
  rcases destinationLeg_cases s (s.desc d) w a with ⟨j, ⟨hj, hmig, hreach, hline⟩, hleg⟩ | ⟨hno, hleg⟩
  · exact .inl ⟨j, hj, hmig, hreach, hline, by rw [writeLegs, hleg]; rfl⟩
  · exact .inr ⟨hno, by rw [writeLegs, hleg, List.append_nil]; rfl⟩

end Sys2Proof.Machine
end

section
/-! SUPPORT. Slots at a resolution, and the release of held slots: what a slot becomes, and the order in which released
slots wait (chapters 3 and 4). -/

namespace Sys2Proof.Machine

variable {s : State}

/-! ## What a slot becomes (R70) -/

theorem modPort_modPort (i : Fin 4) (f g : IPort → IPort) : (s.modPort i f).modPort i g = s.modPort i (g ∘ f) := by
  simp [State.modPort, State.port]

/-- Legs join the queue of their target behind those that wait there, in their own order (R73). -/
theorem queueLegs_eq (k : Fin 8) (ls : List Leg) (qs : Vector (List LegRef) 4) :
    queueLegs k ls qs = tabulate fun t =>
      look qs t ++ (ls.filter fun l => decide (l.target = t)).map fun l => ⟨k, l.role⟩ := by
  refine table_ext fun t => ?_
  rw [look_tabulate, queueLegs]
  induction ls generalizing qs with
  | nil => simp
  | cons l ls ih =>
    rw [List.foldl_cons, ih, look_upd]
    by_cases h : l.target = t
    · subst h; simp
    · simp [h, Ne.symm h]

/-- A held slot is the slot as it stood, with its hold (R70). -/
theorem takeHold_eq (i : Fin 4) (k : Fin 8) (h : Hold) (s : State) : takeHold i k h s =
    s.modSlot i k fun _ => { s.slot i k with state := .held, hold := some h, released := false } := rfl

/-- An answered slot is the slot as it stood, with its response at the tail of the answer list (R70). -/
theorem takeAnswer_eq (i : Fin 4) (k : Fin 8) (c : RespCode) (s : State) : takeAnswer i k c s =
    s.modPort i fun p => { p with
      slots := upd p.slots k { s.slot i k with state := .issued, hold := none, released := false, response := some c }
      answers := p.answers ++ [.slot k] } := by
  rw [takeAnswer, formResponse, State.modSlot, modPort_modPort]
  simp [State.modPort, State.slot]

/-- A slot with legs is the slot as it stood, counted on the winner (R48, R70). -/
theorem takeLegs_eq (i : Fin 4) (k : Fin 8) (d : DescIdx) (ls : List Leg) (s : State) : takeLegs i k d ls s =
    notify d (s.slot i k).dir ((s.modPort i fun p =>
      { p with
        slots := upd p.slots k
          { s.slot i k with
            state := .waiting, hold := none, released := false, legs := ls
            counted := some ⟨d, (s.desc d).gen, (s.desc d).lineOf (s.slot i k).addr⟩ }
        legQueues := tabulate fun t =>
          look p.legQueues t ++ (ls.filter fun l => decide (l.target = t)).map fun l => ⟨k, l.role⟩ }).modDesc d
      fun x => { x with cur := x.cur + 1 }) := by
  simp only [takeLegs, queueLegs_eq]

/-- Settles O22: one equation for each way that a slot takes its outcome. -/
theorem slotTakesTheOutcome : Obligations.SlotTakesTheOutcome := by
  intro i k s
  have hfault := congrArg (raise (.decode i)) (takeAnswer_eq i k .decodeErr s)
  unfold resolveSlot
  dsimp only
  cases resolveOn s (winner s (s.slot i k).addr) i (s.slot i k).dir (s.slot i k).addr with
  | heldSwitch => exact takeHold_eq ..
  | heldLine n => exact takeHold_eq ..
  | readFault => exact hfault
  | writeFault => exact hfault
  | denied => exact hfault
  | discard => exact congrArg (notify _ _) (takeAnswer_eq ..)
  | legs ls => exact takeLegs_eq ..

/-! ## Released slots (R55, R77) -/

/-- The slots named by `q` stand in the order of their acceptance positions (R77). -/
def InAcceptanceOrder (slots : Vector Slot 8) (q : List (Fin 8)) : Prop :=
  q.Pairwise fun j k => (look slots j).pos ≤ (look slots k).pos

theorem insertByPos_inOrder {slots : Vector Slot 8} (k : Fin 8) {q : List (Fin 8)} (h : InAcceptanceOrder slots q) :
    InAcceptanceOrder slots (insertByPos slots k q) := by
  induction q with
  | nil => exact List.pairwise_singleton _ k
  | cons j q ih =>
    obtain ⟨hj, hq⟩ := List.pairwise_cons.1 h
    unfold insertByPos
    split
    · next hlt => exact List.pairwise_cons.2 ⟨List.forall_mem_cons.2 ⟨hlt.le, fun l hl => hlt.le.trans (hj l hl)⟩, h⟩
    · next hlt =>
      refine List.pairwise_cons.2 ⟨fun l hl => ?_, ih hq⟩
      rcases (mem_insertByPos slots k l q).1 hl with rfl | hl
      · exact not_lt.1 hlt
      · exact hj l hl

/-- A release keeps a resolution queue in acceptance order (R77). -/
theorem releasePort_inOrder (sel : Hold → Bool) {p : IPort} (h : InAcceptanceOrder p.slots p.resQueue) :
    InAcceptanceOrder p.slots (releasePort sel p).resQueue :=
  List.foldlRecOn (motive := InAcceptanceOrder p.slots) _ _ h fun _ hq k _ => insertByPos_inOrder k hq

/-- A release moves no slot in the acceptance order. -/
theorem release_slot_pos (sel : Hold → Bool) (i : Fin 4) (k : Fin 8) :
    ((release sel s).slot i k).pos = (s.slot i k).pos := by
  obtain ⟨b, hb⟩ := release_slot_eq s sel i k
  rw [hb]

theorem reResolution_cons {i : Fin 4} {k : Fin 8} {q : List (Fin 8)} (h : (s.port i).resQueue = k :: q) :
    exec (.reResolution i) s = .next (resolveSlot i k (s.modPort i fun p => { p with resQueue := q })) := by
  rw [show exec (.reResolution i) s = .next (reResolve i s) from rfl, reResolve, h]

theorem reResolution_nil {i : Fin 4} (h : (s.port i).resQueue = []) : exec (.reResolution i) s = .next s := by
  rw [show exec (.reResolution i) s = .next (reResolve i s) from rfl, reResolve, h]

/-- Settles O23: a release inserts each slot that it names by its position, which it does not change. -/
theorem releasedSlotsResolveInAcceptanceOrder : Obligations.ReleasedSlotsResolveInAcceptanceOrder := by
  refine ⟨fun sel s => ⟨release_slot s sel, fun i k => ?_, fun i h => ?_, fun i => ?_, rfl⟩,
    fun i s => ⟨fun _ _ => reResolution_cons, reResolution_nil⟩⟩
  · rw [release_port]; exact mem_releasePort_resQueue sel (s.port i) k
  · simp only [release_slot_pos]
    rw [release_port]
    exact releasePort_inOrder sel h
  · rw [release_port]; rfl

end Sys2Proof.Machine
end

section
/-! SUPPORT. Accesses at the monitors, and the withdrawal and the wake enqueue that an access can bring about
(chapter 8, R106, R107). -/

namespace Sys2Proof.Machine

variable {s : State}

/-! ## An access at a monitor (R147) -/

/-- A notification goes to the monitors that run on the winner (R42). -/
theorem notify_eq (d : DescIdx) (dir : Dir) (s : State) : notify d dir s =
    { s with arrivals := s.arrivals ++ ((List.finRange 16).filter fun m =>
        decide (ordIdx (s.mon m).subject = d ∧ (s.mon m).state ≠ .off)).map fun m => .access m d dir } := by
  simp only [notify, monitors, Bool.decide_and]

theorem Filter.admits_iff {f : Filter} {dir : Dir} :
    f.admits dir = true ↔ f = .both ∨ f = .reads ∧ dir = .read ∨ f = .writes ∧ dir = .write := by
  cases f <;> cases dir <;> decide

theorem Monitor.sees_iff {x : Monitor} {d : DescIdx} {dir : Dir} : x.sees d dir = true ↔
    ordIdx x.subject = d ∧
      (x.filter = .both ∨ x.filter = .reads ∧ dir = .read ∨ x.filter = .writes ∧ dir = .write) := by
  rw [Monitor.sees, Bool.and_eq_true, decide_eq_true_eq, Filter.admits_iff]

section
variable {m : Fin 16} {d : DescIdx} {dir : Dir}

/-- An access that the monitor does not see, or that finds it OFF, changes nothing (R147, R155). -/
theorem takeArrival_access_ignored (h : (s.mon m).sees d dir = true → (s.mon m).state = .off) :
    takeArrival (.access m d dir) s = s := by
  rw [takeArrival]
  split
  · next hsees => rw [takeAccess, h hsees]
  · rfl

/-- A COUNTING monitor begins again at its reload (R147). -/
theorem takeArrival_access_counting (hsees : (s.mon m).sees d dir = true) (h : (s.mon m).state = .counting) :
    takeArrival (.access m d dir) s = s.modMon m fun x => { x with count := x.reload } := by
  rw [takeArrival, if_pos hsees, takeAccess, h]

/-- An IDLE monitor wakes (R150). -/
theorem takeArrival_access_idle (hsees : (s.mon m).sees d dir = true) (h : (s.mon m).state = .idle) :
    takeArrival (.access m d dir) s = wakeUp m s := by
  rw [takeArrival, if_pos hsees, takeAccess, h]

end

/-! ## A monitor's requests at the engine (R106, R107) -/

theorem modMon_modMon (m : Fin 16) (f g : Monitor → Monitor) : (s.modMon m f).modMon m g = s.modMon m (g ∘ f) := by
  simp [State.modMon, State.mon]

theorem takeAsk_none {m : Fin 16} (h : (s.mon m).ask = none) : takeAsk m s = s := by
  rw [takeAsk, h]

theorem takeAsk_withdraw {m : Fin 16} {id : BitVec 8} (h : (s.mon m).ask = some (.withdraw id)) :
    takeAsk m s = takeWithdrawal m id (s.modMon m fun x => { x with ask := none }) := by
  rw [takeAsk, h]

/-- The withdrawal of a job that is not queued asks for the wake template (R150). -/
theorem takeWithdrawal_notQueued {m : Fin 16} {id : BitVec 8} (h : queuedJob s id = none) :
    takeWithdrawal m id s = s.modMon m fun x => { x with ask := x.wakeAsk } := by
  rw [takeWithdrawal, h]

/-- The withdrawal of a queued job ends it and clears the idle job (R107, R150). -/
theorem takeWithdrawal_queued {m : Fin 16} {id : BitVec 8} {j : Job} (h : queuedJob s id = some j) :
    takeWithdrawal m id s = (endQueued j .withdrawn s).modMon m fun x => { x with idleJob := none } := by
  rw [takeWithdrawal, h]

theorem queuedJob_id {id : BitVec 8} {j : Job} (h : queuedJob s id = some j) : j.id = id := by
  simpa using List.find?_some h

/-- A queued job's end sets the flag of its ending and no other (R111). -/
theorem endQueued_isPending (j : Job) (e : Ending) (c : EventClass) :
    (endQueued j e s).isPending c = (s.isPending c || decide (c = e.event)) := by
  have hbefore (t : State) (ht : t.evc = s.evc) : t.isPending c = s.isPending c := by rw [State.isPending, ht]; rfl
  rw [endQueued, isPending_raise, hbefore _ (by rw [endNotice_evc]; rfl)]
  split
  · next h => simp [h]
  · next h => simp [h]

/-- The checks of an enqueue look at no monitor (R105, R106). -/
theorem enqueueRefusal_modMon (m : Fin 16) (f : Monitor → Monitor) (d : Fin 64) (w : Window) :
    enqueueRefusal (s.modMon m f) d w = enqueueRefusal s d w := rfl

/-- A wake enqueue that a check refuses sets QUEUE_REFUSED (R106). -/
theorem takeAsk_wake_refused {m : Fin 16} {w : Template} {r : Reason} (hask : (s.mon m).ask = some .wake)
    (hw : (s.mon m).wakeT = some w) (hr : enqueueRefusal s (s.mon m).subject w.dest = some r) :
    takeAsk m s = raise .queueRefused (s.modMon m fun x => { x with ask := none }) := by
  simp only [takeAsk, hask, takeWakeAsk, State.modMon_mon_self, hw, monitorEnqueue, enqueueRefusal_modMon, hr]

/-- A wake enqueue that passes the checks forms a job (R103, R106). -/
theorem takeAsk_wake_queued {m : Fin 16} {w : Template} (hask : (s.mon m).ask = some .wake)
    (hw : (s.mon m).wakeT = some w) (hr : enqueueRefusal s (s.mon m).subject w.dest = none) :
    takeAsk m s =
      enqueue (s.mon m).subject w.dest w.mode (.monitorWake m) (s.modMon m fun x => { x with ask := none }) := by
  simp only [takeAsk, hask, takeWakeAsk, State.modMon_mon_self, hw, monitorEnqueue, enqueueRefusal_modMon, hr]

/-- What the withdrawal of a queued job changes: the job and its notice, the monitor, the outcome and the flag (R107,
R111, R150, R151). -/
theorem takeAsk_withdraw_queued {m : Fin 16} {id : BitVec 8} {j : Job} (hask : (s.mon m).ask = some (.withdraw id))
    (hj : queuedJob s id = some j) :
    (takeAsk m s).mon m = { s.mon m with ask := none, idleJob := none } ∧
      (∀ n, n ≠ m → (takeAsk m s).mon n =
        if j.origin = .monitorIdle n ∧ (s.mon n).idleJob = some id then { s.mon n with idleJob := none }
        else s.mon n) ∧
      (takeAsk m s).eng = { s.eng with queue := s.eng.queue.eraseP fun q => decide (q.id = id) } ∧
      (∀ e, (takeAsk m s).desc e =
        if e = ordIdx j.desc then { s.desc e with outcome := .aborted .withdrawn } else s.desc e) ∧
      ∀ c, (takeAsk m s).isPending c = (s.isPending c || decide (c = .jobAborted)) := by
  have hid := queuedJob_id hj
  have htake : takeAsk m s = (endQueued j .withdrawn (s.modMon m fun x => { x with ask := none })).modMon m
      fun x => { x with idleJob := none } :=
    (takeAsk_withdraw hask).trans (takeWithdrawal_queued hj)
  rw [htake]
  refine ⟨?_, fun n hn => ?_, ?_, fun e => ?_, fun c => ?_⟩
  · rw [State.modMon_mon_self, endQueued_mon, endNotice_mon, State.modMon_mon_self]
    split <;> rfl
  · rw [State.modMon_mon_ne _ _ hn, endQueued_mon, endNotice_mon, State.modMon_mon_ne _ _ hn, hid]
  · rw [State.modMon_eng, endQueued_eng, State.modMon_eng, hid]
  · rw [State.modMon_desc, endQueued_desc, State.modMon_desc]; rfl
  · exact endQueued_isPending j .withdrawn c

/-- Settles O46: an arrival is taken by the one monitor as it stands, and a request by the engine as it stands. -/
theorem notificationReloadsOrWakes : Obligations.NotificationReloadsOrWakes := by
  refine ⟨notify_eq, fun m d dir s => ⟨fun h => ?_, fun hd hadmits => ?_⟩, fun m s => ⟨takeAsk_none, ?_, ?_⟩⟩
  · refine takeArrival_access_ignored fun hsees => ?_
    obtain ⟨hd, hadmits⟩ := Monitor.sees_iff.1 hsees
    exact (h.resolve_left (not_not.2 hd)).resolve_left (not_not.2 hadmits)
  · have hsees : (State.mon { s with arrivals := s.arrivals.erase (.access m d dir) } m).sees d dir = true :=
      Monitor.sees_iff.2 ⟨hd, hadmits⟩
    exact ⟨takeArrival_access_counting hsees, takeArrival_access_idle hsees⟩
  · refine fun id hask => ⟨fun hnone => ?_, fun j hj => ?_⟩
    · calc takeAsk m s
        _ = takeWithdrawal m id (s.modMon m fun x => { x with ask := none }) := takeAsk_withdraw hask
        _ = (s.modMon m fun x => { x with ask := none }).modMon m fun x => { x with ask := x.wakeAsk } :=
          takeWithdrawal_notQueued hnone
        _ = _ := modMon_modMon ..
    · obtain ⟨hself, hother, heng, hdesc, hflags⟩ := takeAsk_withdraw_queued hask hj
      exact ⟨hself, hother, heng, hdesc, hflags, takeAsk_route m, takeAsk_ports m, surround_takeAsk m⟩
  · exact fun w hask hw => ⟨fun r => takeAsk_wake_refused hask hw, takeAsk_wake_queued hask hw⟩

end Sys2Proof.Machine
end

section
/-! SUPPORT. The laws of the transactions with something still to come: the counts beside uncounts that are still to be
taken (R49, R50), and the outstanding requests beside results on their way to their owners (R86, R96). -/

namespace Sys2Proof.Machine

variable {s t u : State}

/-- A change of a port that puts a record in one slot. -/
theorem modPort_slot {i : Fin 4} {k : Fin 8} {f : IPort → IPort} {x : Slot}
    (hf : (f (s.port i)).slots = upd (s.port i).slots k x) (j : Fin 4) (n : Fin 8) :
    (s.modPort i f).slot j n = if j = i ∧ n = k then x else s.slot j n := by
  rw [State.slot, State.modPort_port]
  by_cases hj : j = i
  · subst hj
    simp only [if_true, hf, look_upd, true_and]; rfl
  · rw [if_neg hj, if_neg fun e => hj e.1]; rfl

/-! ## Counts and uncounts to come -/

/-- A transaction is counted on descriptor `d` in generation `gen`. -/
def countsIn (d : DescIdx) (gen : BitVec 8) : Option Counted → Bool
  | some c => decide (c.index = d) && decide (c.gen = gen)
  | none => false

/-- A transaction is counted on descriptor `d` in another generation than `gen`. -/
def countsBefore (d : DescIdx) (gen : BitVec 8) : Option Counted → Bool
  | some c => decide (c.index = d) && !decide (c.gen = gen)
  | none => false

/-- What the slots of the part are counted on. -/
def State.counteds (s : State) : List (Option Counted) := s.allSlots.map Slot.counted

/-- The in-flight counts are those of the slots and of the transactions in `owed`, which are still to be uncounted. -/
def CountsOwe (owed : List (Option Counted)) (s : State) : Prop :=
  ∀ d : DescIdx,
    (s.desc d).cur = (s.counteds ++ owed).countP (countsIn d (s.desc d).gen) ∧
      (s.desc d).prev = (s.counteds ++ owed).countP (countsBefore d (s.desc d).gen)

theorem countedIn_eq (d : DescIdx) (gen : BitVec 8) : Slot.countedIn d gen = countsIn d gen ∘ Slot.counted := by
  funext sl
  cases h : sl.counted <;> simp [Slot.countedIn, countsIn, h]

theorem countedBefore_eq (d : DescIdx) (gen : BitVec 8) :
    Slot.countedBefore d gen = countsBefore d gen ∘ Slot.counted := by
  funext sl
  cases h : sl.counted <;> simp [Slot.countedBefore, countsBefore, h]

/-- With nothing to come the counts are those of the slots. -/
theorem countsOwe_nil : CountsOwe [] s ↔ CountsMatchSlots s := by
  simp only [CountsOwe, CountsMatchSlots, List.append_nil, State.counteds, List.countP_map, countedIn_eq,
    countedBefore_eq]

/-- Two states whose slots and owed transactions are counted alike, and whose descriptors count alike. -/
theorem CountsOwe.of_alike {owed owed' : List (Option Counted)} (h : CountsOwe owed s)
    (hd : ∀ d, (t.desc d).gen = (s.desc d).gen ∧ (t.desc d).cur = (s.desc d).cur ∧ (t.desc d).prev = (s.desc d).prev)
    (hc : ∀ q : Option Counted → Bool, q none = false →
      (t.counteds ++ owed').countP q = (s.counteds ++ owed).countP q) : CountsOwe owed' t := fun d => by
  obtain ⟨hgen, hcur, hprev⟩ := hd d
  rw [hgen, hcur, hprev, hc _ rfl, hc _ rfl]
  exact h d

/-- Slots that are counted alike, one by one. -/
theorem counteds_congr (h : ∀ i k, (t.slot i k).counted = (s.slot i k).counted) : t.counteds = s.counteds := by
  simp only [State.counteds, State.allSlots, List.map_flatMap, List.map_map]
  exact List.flatMap_congr fun i _ => List.map_congr_left fun k _ => h i k

/-- The counts stand where neither the descriptors nor what the slots are counted on change. -/
theorem CountsOwe.congr {owed : List (Option Counted)} (h : CountsOwe owed s) (hm : t.map = s.map)
    (hc : ∀ i k, (t.slot i k).counted = (s.slot i k).counted) : CountsOwe owed t :=
  h.of_alike (fun d => by simp [State.desc, hm]) fun _ _ => by rw [counteds_congr hc]

/-- The slots of one port. -/
def State.portSlots (s : State) (i : Fin 4) : List Slot := slotIdxs.map fun k => s.slot i k

/-- The slots of the part are those of one port and those of the others. -/
theorem allSlots_perm {i : Fin 4} (h : ∀ j, j ≠ i → t.port j = s.port j) :
    ∃ rest, s.allSlots.Perm (s.portSlots i ++ rest) ∧ t.allSlots.Perm (t.portSlots i ++ rest) := by
  have hperm (u : State) : u.allSlots.Perm (u.portSlots i ++ (four.erase i).flatMap u.portSlots) :=
    (List.perm_cons_erase (mem_four i)).flatMap_right _
  refine ⟨(four.erase i).flatMap s.portSlots, hperm s, ?_⟩
  rw [List.flatMap_congr (g := t.portSlots)]
  · exact hperm t
  · intro j hj
    have hne : j ≠ i := (List.Nodup.mem_erase_iff (List.nodup_finRange 4)).1 hj |>.1
    simp only [State.portSlots, State.slot, h j hne]

/-- A change at one port changes what is counted as it does at that port. -/
theorem counteds_of_port {i : Fin 4} {owed owed' : List (Option Counted)} (hne : ∀ j, j ≠ i → t.port j = s.port j)
    {q : Option Counted → Bool}
    (hi : ((t.portSlots i).map Slot.counted ++ owed').countP q = ((s.portSlots i).map Slot.counted ++ owed).countP q) :
    (t.counteds ++ owed').countP q = (s.counteds ++ owed).countP q := by
  obtain ⟨rest, hs, ht⟩ := allSlots_perm hne
  simp only [State.counteds, List.countP_append] at hi ⊢
  rw [(hs.map Slot.counted).countP_eq, (ht.map Slot.counted).countP_eq, List.map_append, List.map_append,
    List.countP_append, List.countP_append]
  omega

/-- The slots of a port are one slot and the others. -/
theorem portSlots_perm {i : Fin 4} {k : Fin 8} (h : ∀ j, j ≠ k → t.slot i j = s.slot i j) :
    ∃ rest, (s.portSlots i).Perm (s.slot i k :: rest) ∧ (t.portSlots i).Perm (t.slot i k :: rest) := by
  have hperm (u : State) : (u.portSlots i).Perm (u.slot i k :: (slotIdxs.erase k).map (u.slot i)) :=
    (List.perm_cons_erase (mem_slotIdxs k)).map (u.slot i)
  refine ⟨(slotIdxs.erase k).map (s.slot i), hperm s, ?_⟩
  rw [List.map_congr_left (g := t.slot i)]
  · exact hperm t
  · exact fun j hj => (h j ((List.Nodup.mem_erase_iff (List.nodup_finRange 8)).1 hj).1).symm

/-- A change of one slot changes what is counted as it does there. -/
theorem counteds_of_slot {i : Fin 4} {k : Fin 8} {owed owed' : List (Option Counted)}
    (hne : ∀ j, j ≠ i → t.port j = s.port j) (hk : ∀ j, j ≠ k → t.slot i j = s.slot i j) {q : Option Counted → Bool}
    (hi : ((t.slot i k).counted :: owed').countP q = ((s.slot i k).counted :: owed).countP q) :
    (t.counteds ++ owed').countP q = (s.counteds ++ owed).countP q := by
  refine counteds_of_port hne ?_
  obtain ⟨rest, hs, ht⟩ := portSlots_perm hk
  simp only [List.countP_append, List.countP_cons] at hi ⊢
  rw [(hs.map Slot.counted).countP_eq, (ht.map Slot.counted).countP_eq, List.map_cons, List.map_cons, List.countP_cons,
    List.countP_cons]
  omega

/-- A count falls for a transaction that is owed (R49). -/
theorem CountsOwe.decrement {c : Counted} {owed : List (Option Counted)} (h : CountsOwe (some c :: owed) s) :
    CountsOwe owed (s.modDesc c.index (Desc.decrement c.gen)) := fun d => by
  have hc : (s.modDesc c.index (Desc.decrement c.gen)).counteds = s.counteds := rfl
  obtain ⟨hcur, hprev⟩ := h d
  simp only [List.countP_append, List.countP_cons, countsIn, countsBefore] at hcur hprev
  rw [hc, State.modDesc_desc]
  split
  · next hd =>
    subst hd
    unfold Desc.decrement
    split
    · next hg => simp [hg, List.countP_append] at hcur hprev ⊢; omega
    · next hg => simp [hg, List.countP_append] at hcur hprev ⊢; omega
  · next hd =>
    simp only [Ne.symm hd, decide_false, Bool.false_and, Bool.false_eq_true, if_false, Nat.add_zero] at hcur hprev
    rw [List.countP_append, List.countP_append]
    exact ⟨hcur, hprev⟩

/-- A transaction that was not counted is counted on `d` in its present generation (R48). -/
theorem CountsOwe.increment {d : DescIdx} {n : Nat} {owed : List (Option Counted)}
    (h : CountsOwe owed s) (hm : t.map = (s.modDesc d fun x => { x with cur := x.cur + 1 }).map)
    (hc : ∀ q : Option Counted → Bool, q none = false →
      t.counteds.countP q = (some ⟨d, (s.desc d).gen, n⟩ :: s.counteds).countP q) : CountsOwe owed t := fun e => by
  have hdesc : t.desc e = (s.modDesc d fun x => { x with cur := x.cur + 1 }).desc e := by simp only [State.desc, hm]
  obtain ⟨hcur, hprev⟩ := h e
  rw [List.countP_append] at hcur hprev
  rw [hdesc, List.countP_append, List.countP_append, hc _ rfl, hc _ rfl, State.modDesc_desc]
  simp only [List.countP_cons, countsIn, countsBefore]
  split
  · next he => subst he; simp; omega
  · next he => simp [Ne.symm he]; omega

/-- A generation begins on a descriptor without a previous count: every transaction counted on it is of an old one
(R52). -/
theorem CountsOwe.newGeneration {d : DescIdx} {owed : List (Option Counted)} (h : CountsOwe owed s)
    (hprev : (s.desc d).prev = 0) (hc : t.counteds = s.counteds) (hne : ∀ e, e ≠ d → t.desc e = s.desc e)
    (hd : (t.desc d).gen = (s.desc d).gen + 1 ∧ (t.desc d).cur = 0 ∧ (t.desc d).prev = (s.desc d).cur) :
    CountsOwe owed t := fun e => by
  by_cases he : e = d
  · subst he
    obtain ⟨hgen, hcur, hp⟩ := hd
    obtain ⟨hold, hzero⟩ := h e
    rw [hprev, eq_comm, List.countP_eq_zero] at hzero
    have hpresent : ∀ c ∈ s.counteds ++ owed, countsIn e ((s.desc e).gen + 1) c = false ∧
        countsBefore e ((s.desc e).gen + 1) c = countsIn e (s.desc e).gen c := fun c hmem => by
      have := hzero c hmem
      cases c with
      | none => exact ⟨rfl, rfl⟩
      | some c =>
        simp only [countsBefore, Bool.and_eq_true, Bool.not_eq_true', decide_eq_true_eq, decide_eq_false_iff_not,
          not_and, not_not] at this
        by_cases hi : c.index = e
        · have hg := this hi
          simp [countsIn, countsBefore, hi, hg]
        · simp [countsIn, countsBefore, hi]
    rw [hgen, hcur, hp, hc, hold]
    refine ⟨(List.countP_eq_zero.2 fun c hmem => by rw [(hpresent c hmem).1]; nofun).symm, ?_⟩
    exact List.countP_congr fun c hmem => by rw [(hpresent c hmem).2]
  · rw [hne e he, hc]; exact h e

/-! ## Requests and results to come -/

/-- The GRANTED legs of role `r` at target `t`. -/
def Slot.granted (sl : Slot) (r : LegRole) (t : Fin 4) : Nat :=
  sl.legs.countP fun l => decide (l.role = r ∧ l.target = t ∧ l.status = .granted)

/-- The GRANTED legs and the engine's requests are those outstanding at the Target Ports and those of the owners in
`owed`, whose requests have left port `p` and whose results are still to come. -/
def OwnersOwe (p : Fin 4) (owed : List Owner) (s : State) : Prop :=
  (∀ t i k r, (s.tport t).owners.count (.leg i k r) + (if t = p then owed.count (.leg i k r) else 0) =
    (s.slot i k).granted r t) ∧
  (four.map fun t => (s.tport t).owners.count .meng).sum + owed.count .meng = s.eng.outstanding

theorem ownersOwe_nil (p : Fin 4) : OwnersOwe p [] s ↔ OwnersFit s := by
  simp [OwnersOwe, OwnersFit, Slot.granted]

/-- The owners stand the same where the queues do, the GRANTED legs do, and the engine's requests do. -/
theorem OwnersOwe.of_alike {p : Fin 4} {owed : List Owner} (h : OwnersOwe p owed s)
    (hq : ∀ t', (t.tport t').owners = (s.tport t').owners) (hl : ∀ i k r t', (t.slot i k).granted r t' = (s.slot i k).granted r t')
    (ho : t.eng.outstanding = s.eng.outstanding) : OwnersOwe p owed t := by
  refine ⟨fun t' i k r => ?_, ?_⟩
  · rw [hq, hl]; exact h.1 t' i k r
  · simp only [hq, ho]; exact h.2

end Sys2Proof.Machine
end

section
/-! SUPPORT. The operations of the map, the engine and the monitors move no transaction: they release held slots at most,
and leave every request outstanding and every count right. -/

namespace Sys2Proof.Machine

variable {s t u : State}

/-- A port after one release after another (R77). -/
def IPort.releasedBy (sels : List (Hold → Bool)) (p : IPort) : IPort := sels.foldl (fun p sel => releasePort sel p) p

/-- From `s` to `t` no transaction moves: held slots are released at most, the Target Ports and the requests of the
engine stay, and the counts go on being right. -/
structure Unmoved (s t : State) : Prop where
  ports  : ∃ sels, ∀ i, t.port i = (s.port i).releasedBy sels
  tports : t.tports = s.tports
  engine : t.eng.outstanding = s.eng.outstanding
  counts : ∀ owed, CountsOwe owed s → CountsOwe owed t

theorem Unmoved.refl : Unmoved s s := ⟨⟨[], fun _ => rfl⟩, rfl, rfl, fun _ => id⟩

theorem Unmoved.trans (h : Unmoved s t) (k : Unmoved t u) : Unmoved s u := by
  obtain ⟨hsels, hports⟩ := h.ports
  obtain ⟨ksels, kports⟩ := k.ports
  refine ⟨⟨hsels ++ ksels, fun i => ?_⟩, k.tports.trans h.tports, k.engine.trans h.engine,
    fun owed => k.counts owed ∘ h.counts owed⟩
  rw [kports, hports, IPort.releasedBy, IPort.releasedBy, IPort.releasedBy, List.foldl_append]

/-- What every release keeps, releases one after another keep. -/
theorem IPort.releasedBy_keeps {Q : IPort → Prop} (hQ : ∀ sel p, Q p → Q (releasePort sel p)) {p : IPort} (hp : Q p)
    (sels : List (Hold → Bool)) : Q (p.releasedBy sels) :=
  List.foldlRecOn (motive := Q) sels _ hp fun p hp sel _ => hQ sel p hp

/-- Releases change a slot at most in its mark. -/
theorem IPort.releasedBy_slot (sels : List (Hold → Bool)) (p : IPort) (k : Fin 8) :
    SameButReleased (look p.slots k) (look (p.releasedBy sels).slots k) := by
  refine IPort.releasedBy_keeps (Q := fun q => SameButReleased (look p.slots k) (look q.slots k)) (fun sel q h => ?_)
    ⟨_, rfl⟩ sels
  obtain ⟨b, hb⟩ := h
  rw [releasePort_slot, hb]
  split <;> exact ⟨_, rfl⟩

theorem Unmoved.port_keeps (h : Unmoved s t) {Q : IPort → Prop} (hQ : ∀ sel p, Q p → Q (releasePort sel p)) {i : Fin 4}
    (hs : Q (s.port i)) : Q (t.port i) := by
  obtain ⟨sels, hports⟩ := h.ports
  rw [hports]
  exact IPort.releasedBy_keeps hQ hs sels

theorem Unmoved.slot (h : Unmoved s t) (i : Fin 4) (k : Fin 8) : SameButReleased (s.slot i k) (t.slot i k) := by
  obtain ⟨sels, hports⟩ := h.ports
  rw [State.slot, State.slot, hports]
  exact IPort.releasedBy_slot sels (s.port i) k

/-- The counts of a descriptor stand as they did. -/
def Desc.SameCounts (x y : Desc) : Prop := y.gen = x.gen ∧ y.cur = x.cur ∧ y.prev = x.prev

/-- No transaction moves where ports release at most, and requests and counts stay. -/
theorem unmoved_of (hports : ∃ sels, ∀ i, t.port i = (s.port i).releasedBy sels) (htports : t.tports = s.tports)
    (heng : t.eng.outstanding = s.eng.outstanding) (hd : ∀ d, (s.desc d).SameCounts (t.desc d)) : Unmoved s t := by
  refine ⟨hports, htports, heng, fun owed ho => ho.of_alike hd fun q _ => ?_⟩
  obtain ⟨sels, hp⟩ := hports
  rw [counteds_congr fun i k => ?_]
  obtain ⟨b, hb⟩ := IPort.releasedBy_slot sels (s.port i) k
  rw [State.slot, State.slot, hp, hb]

/-- No transaction moves where the ports, the requests and the counts stay. -/
theorem unmoved_of_same (hports : t.ports = s.ports) (htports : t.tports = s.tports)
    (heng : t.eng.outstanding = s.eng.outstanding) (hd : ∀ d, (s.desc d).SameCounts (t.desc d)) : Unmoved s t :=
  unmoved_of ⟨[], port_of_ports hports⟩ htports heng hd

/-- The laws of the map speak of all that counts speak of, but for the outcomes. -/
theorem SameStanding.unmoved (h : SameStanding s t) (hports : t.ports = s.ports) (htports : t.tports = s.tports) :
    Unmoved s t := by
  refine unmoved_of_same hports htports ?_ fun d => ?_
  · obtain ⟨q, n, c, b, he⟩ := h.eng
    rw [he]
  · obtain ⟨o, ho⟩ := h.desc d
    rw [ho]
    exact ⟨rfl, rfl, rfl⟩

/-- No transaction moves where the map, the engine, and the ports of both kinds stay. -/
theorem unmoved_frame (hm : t.map = s.map) (he : t.eng = s.eng) (hports : t.ports = s.ports)
    (htports : t.tports = s.tports) : Unmoved s t := (SameStanding.of_same hm he).unmoved hports htports

theorem unmoved_modDesc {d : DescIdx} {f : Desc → Desc} (h : (s.desc d).SameCounts (f (s.desc d))) :
    Unmoved s (s.modDesc d f) := by
  refine unmoved_of_same rfl rfl rfl fun e => ?_
  rw [State.modDesc_desc]
  split
  · next he => subst he; exact h
  · exact ⟨rfl, rfl, rfl⟩

theorem unmoved_modEng {f : Engine → Engine} (h : (f s.eng).outstanding = s.eng.outstanding) :
    Unmoved s (s.modEng f) := unmoved_of_same rfl rfl h fun _ => ⟨rfl, rfl, rfl⟩

theorem unmoved_raise (c : EventClass) : Unmoved s (raise c s) := unmoved_frame rfl rfl rfl rfl

theorem unmoved_release (sel : Hold → Bool) : Unmoved s (release sel s) :=
  unmoved_of ⟨[sel], release_port s sel⟩ rfl rfl fun _ => ⟨rfl, rfl, rfl⟩

/-! ## The engine's steps -/

theorem afterJob_outstanding (g : Engine) : g.afterJob.outstanding = g.outstanding := by
  unfold Engine.afterJob
  dsimp only
  split
  · rfl
  · split <;> rfl

theorem unmoved_endActive (e : Ending) : Unmoved s (endActive e s) := by
  rcases hj : s.eng.active with _ | j
  · rw [endActive_none s e hj]; exact .refl
  · refine unmoved_of ⟨[Hold.onDescLine (ordIdx j.desc)], endActive_port e hj⟩ (endActive_tports s e) ?_ fun d => ?_
    · rw [endActive_eng, if_neg (by simp [hj]), afterJob_outstanding]
    · obtain ⟨o, st, hd, _⟩ := endActive_desc_eq s e d
      rw [hd]
      exact ⟨rfl, rfl, rfl⟩

theorem unmoved_takeStartChecks : Unmoved s (takeStartChecks s) := by
  rcases takeStartChecks_cases s with h | ⟨r, h⟩ <;> rw [h]
  · exact .refl
  · exact unmoved_endActive _

theorem unmoved_beginJob : Unmoved s (beginJob s) := by
  rcases beginJob_cases s with h | ⟨r, h⟩ | ⟨j, _, _, _, h⟩ <;> rw [h]
  · exact .refl
  · exact unmoved_endActive _
  · exact (unmoved_modDesc ⟨rfl, rfl, rfl⟩).trans (unmoved_modEng rfl)

theorem unmoved_recheckStart (d : DescIdx) : Unmoved s (recheckStart d s) := by
  rcases recheckStart_cases s d with h | ⟨_, h⟩ <;> rw [h]
  · exact .refl
  · exact unmoved_beginJob

theorem unmoved_activateJob : Unmoved s (activateJob s) := by
  rcases activateJob_cases s with h | ⟨j, rest, _, _, _, h⟩ <;> rw [h]
  · exact .refl
  · exact (unmoved_modEng rfl).trans unmoved_takeStartChecks

theorem unmoved_activateAtOnce : Unmoved s (activateAtOnce s) := by
  rcases activateAtOnce_cases s with h | ⟨j, rest, _, _, _, h⟩ <;> rw [h]
  · exact .refl
  · exact (unmoved_modEng rfl).trans unmoved_beginJob

theorem unmoved_beginLine : Unmoved s (beginLine s) := by
  unfold beginLine
  split
  · exact unmoved_modEng rfl
  · exact .refl

theorem unmoved_enqueueAtOnce (d : Fin 64) (w : Window) (m : Mode) : Unmoved s (enqueueAtOnce d w m s) := by
  unfold enqueueAtOnce
  split
  · exact Unmoved.trans (unmoved_modEng rfl) unmoved_activateAtOnce
  · exact unmoved_modEng rfl

theorem unmoved_copyError : Unmoved s (copyError s) := by
  unfold copyError
  split
  · exact .refl
  · split
    · exact unmoved_modEng rfl
    · exact unmoved_endActive _

theorem unmoved_mirrorReport (c : Counted) (l : Leg) : Unmoved s (mirrorReport c l s) := by
  unfold mirrorReport
  split
  · exact .refl
  · split
    · exact unmoved_endActive _
    · exact .refl

/-! ## Switches and drains -/

theorem unmoved_switchDone (d : DescIdx) : Unmoved s (switchDone d s) := by
  have h : Unmoved s (raise .switched (s.modDesc d fun x =>
      { x with switching := false, state := if x.state = .migrating then .live else x.state })) :=
    (unmoved_modDesc ⟨rfl, rfl, rfl⟩).trans (unmoved_raise _)
  unfold switchDone
  dsimp only
  split
  · exact h.trans (unmoved_endActive _)
  · exact h

theorem unmoved_completeSwitch (d : DescIdx) : Unmoved s (completeSwitch d s) :=
  (unmoved_switchDone d).trans ((unmoved_release _).trans (unmoved_recheckStart d))

/-- A drain ends only with both counts zero, which they are in FREE too (R60). -/
theorem unmoved_drainEnd (d : DescIdx) : Unmoved s (drainEnd d s) := by
  unfold drainEnd
  split
  · next h => exact (unmoved_modDesc ⟨rfl, h.2.1.symm, h.2.2.symm⟩).trans (unmoved_raise _)
  · exact .refl

/-- An uncount moves nothing but the count itself (R49). -/
theorem unmoved_uncount (c : Counted) : Unmoved (s.modDesc c.index (Desc.decrement c.gen)) (uncount c s) := by
  unfold uncount
  dsimp only
  split
  · exact unmoved_completeSwitch _
  · exact unmoved_drainEnd _

/-- A switch starts without a previous count: the present one becomes it (R52). -/
theorem unmoved_startSwitch {d : DescIdx} (hprev : (s.desc d).prev = 0) : Unmoved s (startSwitch d s) := by
  have hgen {f : Desc → Desc} (h : (f (s.desc d)).gen = (s.desc d).gen + 1 ∧ (f (s.desc d)).cur = 0 ∧
      (f (s.desc d)).prev = (s.desc d).cur) : Unmoved s (s.modDesc d f) := by
    refine ⟨⟨[], fun _ => rfl⟩, rfl, rfl, fun owed ho => ho.newGeneration hprev rfl (fun e he => ?_) ?_⟩
    · exact State.modDesc_desc_ne _ _ he
    · rw [State.modDesc_desc_self]; exact h
  unfold startSwitch
  dsimp only
  split
  · next hc =>
    have h := hgen (f := fun x => { x with gen := x.gen + 1, state := if x.state = .migrating then .live else x.state })
      ⟨rfl, hc, hprev.trans hc.symm⟩
    split
    · exact h.trans (unmoved_endActive _)
    · exact h
  · exact hgen ⟨rfl, rfl, rfl⟩

theorem unmoved_cuttingOver (j : Job) : Unmoved s (cuttingOver j s) := by
  refine unmoved_of_same rfl rfl rfl fun d => ?_
  obtain ⟨r, w, m, hd⟩ := cuttingOver_desc (s := s) j d
  rw [hd]
  exact ⟨rfl, rfl, rfl⟩

theorem unmoved_enterCutover (hs : MapFits s) (hc : s.eng.state = .copying) (hl : s.eng.lineInFlight = none) :
    Unmoved s (enterCutover s) := by
  rcases hj : s.eng.active with _ | j
  · unfold enterCutover; rw [hj]; exact .refl
  · rw [enterCutover_eq hj]
    exact (unmoved_cuttingOver j).trans (unmoved_startSwitch (switchReady_cuttingOver hs hj hc hl).prev_zero)

theorem unmoved_completeLine (hs : MapFits s) (ho : s.eng.outstanding = 0) : Unmoved s (completeLine s) := by
  rcases completeLine_cases (s := s) with h | ⟨j, l, u, _, hl, rfl, hu⟩
  · rw [h]; exact .refl
  · have hc := ((mapFits_iff.1 hs).1.line hl).1
    have hfits : MapFits (release (Hold.onLine (ordIdx j.desc) l) (s.modEng Engine.lineDone)) :=
      (kept_release _).fits ((kept_lineDone hl ho).fits hs)
    refine Unmoved.trans (Unmoved.trans (unmoved_modEng (f := Engine.lineDone) rfl)
      (unmoved_release (Hold.onLine (ordIdx j.desc) l))) ?_
    rcases hu with h | h | h <;> rw [h]
    · exact .refl
    · exact unmoved_modEng rfl
    · exact unmoved_enterCutover hfits hc rfl

/-- A result of a copy request takes one request from the engine and moves nothing else (R125 to R127, R134, R112). -/
theorem unmoved_copyResult (hs : MapFits s) (code : TargetCode) (data : List Byte) :
    Unmoved (s.modEng Engine.answered) (copyResult code data s) := by
  unfold copyResult
  split
  · refine unmoved_of_same rfl rfl ?_ fun _ => ⟨rfl, rfl, rfl⟩
    simp only [State.modEng_eng, Engine.abortResult, Engine.answered]
    split
    · rfl
    · split <;> rfl
  · next ha =>
    have hzero : (s.modEng Engine.answered).eng.outstanding = 0 := by
      have := (mapFits_iff.1 hs).1.2.2.1
      simp only [State.modEng_eng, Engine.answered]; omega
    dsimp only
    split
    · exact unmoved_modEng (s := s.modEng Engine.answered) rfl
    · exact unmoved_completeLine ((kept_answered ha).fits hs) hzero
    · exact unmoved_copyError
    · exact unmoved_copyError
    · exact .refl
    · exact .refl

/-! ## The monitors -/

theorem unmoved_takeAsk (m : Fin 16) : Unmoved s (takeAsk m s) :=
  (standing_takeAsk m).unmoved (takeAsk_ports m) (surround_takeAsk m).1

theorem unmoved_finishAsks (m : Fin 16) : Unmoved s (finishAsks m s) := (unmoved_takeAsk m).trans (unmoved_takeAsk m)

theorem unmoved_finishAll (sel : Monitor → Bool) : Unmoved s (finishAll sel s) :=
  (standing_finishAll sel).unmoved (finishAll_ports sel) (surround_finishAll sel).1

theorem takeArrival_frame (a : Arrival) : (takeArrival a s).map = s.map ∧ (takeArrival a s).eng = s.eng := by
  have htick (m : Fin 16) : (takeTick m s).map = s.map ∧ (takeTick m s).eng = s.eng := by
    unfold takeTick
    split
    · exact ⟨rfl, rfl⟩
    · exact ⟨rfl, rfl⟩
    · split <;> exact ⟨rfl, rfl⟩
  have haccess (m : Fin 16) : (takeAccess m s).map = s.map ∧ (takeAccess m s).eng = s.eng := by
    unfold takeAccess
    split <;> exact ⟨rfl, rfl⟩
  cases a with
  | tick m src =>
    simp only [takeArrival]
    split
    · exact htick m
    · exact ⟨rfl, rfl⟩
  | access m d dir =>
    simp only [takeArrival]
    split
    · exact haccess m
    · exact ⟨rfl, rfl⟩

theorem unmoved_takeArrival (a : Arrival) : Unmoved s (takeArrival a s) :=
  unmoved_frame (takeArrival_frame a).1 (takeArrival_frame a).2 (takeArrival_ports a) (surround_takeArrival a).1

/-! ## RETIRE and RESTART -/

theorem unmoved_withdraw (d : DescIdx) : Unmoved s (withdraw d s) := by
  have hleave : Unmoved s (leaveUse d s) := by
    have h : Unmoved s (s.modDesc d Desc.leaving) := unmoved_modDesc ⟨rfl, rfl, rfl⟩
    unfold leaveUse
    dsimp only
    split
    · exact h.trans (unmoved_endActive _)
    · exact h
  have hswitch {v : State} (b : Bool) : Unmoved v (releaseSwitch d b v) := by
    unfold releaseSwitch
    split
    · exact unmoved_release _
    · exact .refl
  have hunbind {v : State} : Unmoved v (unbindMonitors d v) := unmoved_frame rfl rfl rfl rfl
  rw [withdraw_eq]
  exact hleave.trans ((hswitch _).trans (hunbind.trans ((unmoved_recheckStart d).trans (unmoved_drainEnd d))))

theorem unmoved_restartActive : Unmoved s (restartActive s) := by
  unfold restartActive
  split
  · exact .refl
  · exact Unmoved.trans (unmoved_modDesc ⟨rfl, rfl, rfl⟩) (unmoved_release _)

theorem unmoved_restartEngine : Unmoved s (restartEngine s) := by
  obtain ⟨m, hm⟩ := writeOutcomes_frame (s := s) (.aborted .restart) s.eng.allJobs
  have hout : Unmoved s (s.eng.allJobs.foldl (fun s j => writeOutcome (ordIdx j.desc) (.aborted .restart) s) s) :=
    (standing_foldl _ (fun _ (j : Job) => standing_writeOutcome (ordIdx j.desc) (.aborted .restart)) _ _).unmoved
      (by rw [hm]) (by rw [hm])
  exact (hout.trans unmoved_restartActive).trans (unmoved_modEng (f := fun g => g.restarted s.mgmt.budget) rfl)

end Sys2Proof.Machine
end

section
/-! SUPPORT. The record of an Initiator Port: its lists, its state and its slots, and what a change of one slot asks of
them (R71, R73, R76, R77, R79). -/

namespace Sys2Proof.Machine

variable {s t u : State} {p q : IPort} {sl : Slot}

/-! ## What the lists of a port name -/

/-- The slot waits in the leg queue of target `t` with its leg of role `r` (R73). -/
def Slot.queuesAt (sl : Slot) (r : LegRole) (t : Fin 4) : Prop :=
  sl.state = .waiting ∧ ∃ l ∈ sl.legs, l.role = r ∧ l.target = t ∧ l.status = .ungranted

/-- The slot holds a formed response (R76). -/
def Slot.answered (sl : Slot) : Prop := sl.state = .issued ∧ sl.response.isSome = true

/-- The slot has been released and waits for its resolution (R77). -/
def Slot.awaitsResolution (sl : Slot) : Prop := sl.state = .held ∧ sl.released = true

/-- The leg queues name the UNGRANTED legs of the WAITING slots, each once (R73). -/
def IPort.queuesFit (p : IPort) : Prop :=
  ∀ t, (look p.legQueues t).Nodup ∧ ∀ ref : LegRef, ref ∈ look p.legQueues t ↔ (look p.slots ref.slot).queuesAt ref.role t

/-- The answer list names the formed responses and the collision place, each once (R76). -/
def IPort.answersFit (p : IPort) : Prop :=
  p.answers.Nodup ∧ (Answer.collision ∈ p.answers ↔ p.collision.isSome = true) ∧
    ∀ k, Answer.slot k ∈ p.answers ↔ (look p.slots k).answered

/-- The resolution queue names the released slots, each once (R77). -/
def IPort.resQueueFit (p : IPort) : Prop :=
  p.resQueue.Nodup ∧ ∀ k, k ∈ p.resQueue ↔ (look p.slots k).awaitsResolution

theorem listsFit_iff : p.listsFit ↔ p.queuesFit ∧ p.answersFit ∧ p.resQueueFit := .rfl

/-- The record of a port, but for its slots. -/
def IPort.frameFits (p : IPort) : Prop := p.listsFit ∧ p.stateFits

/-- The record of a port is one that R67 to R79 allow. -/
def IPort.fits (p : IPort) : Prop := p.frameFits ∧ ∀ k, (look p.slots k).fits

theorem portsFit_iff : PortsFit s ↔ ∀ i, (s.port i).fits := by
  simp only [PortsFit, IPort.fits, IPort.frameFits, and_assoc]; rfl

theorem PortsFit.port (h : PortsFit s) (i : Fin 4) : (s.port i).fits := portsFit_iff.1 h i

/-- A change of one port asks for that port alone. -/
theorem PortsFit.modPort (h : PortsFit s) {i : Fin 4} {f : IPort → IPort} (hf : (f (s.port i)).fits) :
    PortsFit (s.modPort i f) := portsFit_iff.2 fun j => by
  rw [State.modPort_port]
  split
  · exact hf
  · exact h.port j

theorem PortsFit.of_ports (h : PortsFit s) (hp : t.ports = s.ports) : PortsFit t :=
  portsFit_iff.2 fun i => by rw [port_of_ports hp]; exact h.port i

/-- What holds of the slot put in place and of every other holds of all. -/
theorem forall_upd {P : Fin 8 → Slot → Prop} {v : Vector Slot 8} {k : Fin 8} {x : Slot} (hk : P k x)
    (h : ∀ j, j ≠ k → P j (look v j)) (j : Fin 8) : P j (look (upd v k x) j) := by
  by_cases hj : j = k
  · subst hj; rwa [look_upd_self]
  · rw [look_upd_ne _ _ hj]; exact h j hj

/-! ## Changes that a list does not see -/

theorem IPort.queuesFit.congr (h : p.queuesFit) (hq : q.legQueues = p.legQueues)
    (hs : ∀ k r t, (look q.slots k).queuesAt r t ↔ (look p.slots k).queuesAt r t) : q.queuesFit := fun t => by
  rw [hq]
  exact ⟨(h t).1, fun ref => ((h t).2 ref).trans (hs _ _ _).symm⟩

theorem IPort.answersFit.congr (h : p.answersFit) (ha : q.answers = p.answers) (hc : q.collision = p.collision)
    (hs : ∀ k, (look q.slots k).answered ↔ (look p.slots k).answered) : q.answersFit := by
  unfold IPort.answersFit
  rw [ha, hc]
  exact ⟨h.1, h.2.1, fun k => (h.2.2 k).trans (hs k).symm⟩

theorem IPort.resQueueFit.congr (h : p.resQueueFit) (hr : q.resQueue = p.resQueue)
    (hs : ∀ k, (look q.slots k).awaitsResolution ↔ (look p.slots k).awaitsResolution) : q.resQueueFit := by
  unfold IPort.resQueueFit
  rw [hr]
  exact ⟨h.1, fun k => (h.2 k).trans (hs k).symm⟩

theorem IPort.stateFits.congr (h : p.stateFits) (hst : q.state = p.state) (hi : q.irst = p.irst)
    (hc : q.collision = p.collision) (hs : ∀ k, (look q.slots k).state = (look p.slots k).state) : q.stateFits := by
  unfold IPort.stateFits
  simp only [hst, hi, hc, hs]
  exact h

/-- An ACTIVE port has its reset deasserted and no orphan (R67, R79). -/
theorem stateFits_active (hst : p.state = .active) :
    p.stateFits ↔ p.irst = false ∧ ∀ k, (look p.slots k).state ≠ .orphaned := by
  simp [IPort.stateFits, hst]

/-- A port with a slot that is neither FREE nor ORPHANED is ACTIVE (R79). -/
theorem IPort.stateFits.active_of_inUse (h : p.stateFits) {k : Fin 8} (hf : (look p.slots k).state ≠ .free)
    (ho : (look p.slots k).state ≠ .orphaned) : p.state = .active := by
  cases hst : p.state with
  | active => rfl
  | resetting => exact absurd ((h.2 hst).2 k) (by simp [hf, ho])

/-! ## Releases -/

theorem nodup_insertByPos {slots : Vector Slot 8} {k : Fin 8} {l : List (Fin 8)} (hl : l.Nodup) (hk : k ∉ l) :
    (insertByPos slots k l).Nodup := by
  induction l with
  | nil => exact List.nodup_singleton k
  | cons j l ih =>
    obtain ⟨hj, hl'⟩ := List.nodup_cons.1 hl
    unfold insertByPos
    split
    · exact List.nodup_cons.2 ⟨hk, hl⟩
    · refine List.nodup_cons.2 ⟨fun h => ?_, ih hl' fun h => hk (List.mem_cons_of_mem _ h)⟩
      rcases (mem_insertByPos slots k j l).1 h with rfl | h
      · exact hk (List.mem_cons_self ..)
      · exact hj h

/-- Slots named by a release join the resolution queue once each (R77). -/
theorem nodup_foldl_insertByPos {slots : Vector Slot 8} (ks : List (Fin 8)) {l : List (Fin 8)} (hks : ks.Nodup)
    (hl : l.Nodup) (hd : ∀ k ∈ ks, k ∉ l) : (ks.foldl (fun l k => insertByPos slots k l) l).Nodup := by
  induction ks generalizing l with
  | nil => exact hl
  | cons k ks ih =>
    obtain ⟨hk, hks'⟩ := List.nodup_cons.1 hks
    refine ih hks' (nodup_insertByPos hl (hd k (List.mem_cons_self ..))) fun j hj hmem => ?_
    rcases (mem_insertByPos slots k j l).1 hmem with rfl | hmem
    · exact hk hj
    · exact hd j (List.mem_cons_of_mem _ hj) hmem

theorem Slot.named_iff {sel : Hold → Bool} :
    sl.named sel = true ↔ sl.state = .held ∧ sl.released = false ∧ ∃ h, sl.hold = some h ∧ sel h = true := by
  unfold Slot.named
  cases sl.hold <;> simp [and_assoc]

/-- A release keeps the record of a port (R77). -/
theorem IPort.frameFits.release (h : p.frameFits) (sel : Hold → Bool) : (releasePort sel p).frameFits := by
  obtain ⟨hlists, hst⟩ := h
  obtain ⟨hq, ha, hnodup, hr⟩ := listsFit_iff.1 hlists
  have hslot (k : Fin 8) : ∃ b, look (releasePort sel p).slots k = { look p.slots k with released := b } := by
    rw [releasePort_slot]; split <;> exact ⟨_, rfl⟩
  refine ⟨listsFit_iff.2 ⟨hq.congr rfl fun k r t => ?_, ha.congr rfl rfl fun k => ?_, ?_, fun k => ?_⟩, hst.congr rfl rfl rfl fun k => ?_⟩
  · obtain ⟨b, hb⟩ := hslot k; rw [hb]; rfl
  · obtain ⟨b, hb⟩ := hslot k; rw [hb]; rfl
  · refine nodup_foldl_insertByPos _ ((List.nodup_finRange 8).filter _) hnodup fun k hk hmem => ?_
    have hfalse := (Slot.named_iff.1 (List.mem_filter.1 hk).2).2.1
    rw [((hr k).1 hmem).2] at hfalse; cases hfalse
  · rw [mem_releasePort_resQueue, hr, releasePort_slot]
    by_cases hn : (look p.slots k).named sel = true
    · rw [if_pos hn]; simp [hn, Slot.awaitsResolution, (Slot.named_iff.1 hn).1]
    · rw [if_neg hn]; simp [hn]
  · obtain ⟨b, hb⟩ := hslot k; rw [hb]

/-- A law of a slot that does not look at the mark of a HELD one is kept by a release. -/
theorem slot_release {P : Slot → Prop} (hP : ∀ sl : Slot, sl.state = .held → P sl → P { sl with released := true })
    (sel : Hold → Bool) {k : Fin 8} (h : P (look p.slots k)) : P (look (releasePort sel p).slots k) := by
  rw [releasePort_slot]
  split
  · next hn => exact hP _ (Slot.named_iff.1 hn).1 h
  · exact h

theorem Slot.fits.mark (h : sl.fits) (hs : sl.state = .held) : Slot.fits { sl with released := true } := by
  unfold Slot.fits at h ⊢
  simp only [hs] at h ⊢
  exact h

/-! ## A slot whose leg has its result -/

/-- A slot that waits on its legs, a result of one of them taken but not yet looked at: counted, without a response; and
out of WAITING without an UNGRANTED leg (R71). -/
def Slot.awaitsLegs (sl : Slot) : Prop :=
  (sl.legs.map Leg.role).Nodup ∧ sl.counted.isSome = true ∧ sl.response = none ∧
    (sl.state = .waiting ∧ (∃ l ∈ sl.legs, l.status = .ungranted) ∨
      (sl.state = .issued ∨ sl.state = .orphaned) ∧ ∀ l ∈ sl.legs, l.status ≠ .ungranted)

/-- A slot with a GRANTED leg waits on its legs. -/
theorem Slot.fits.awaitsLegs (h : sl.fits) {l : Leg} (hl : l ∈ sl.legs) (hg : l.status = .granted) : sl.awaitsLegs := by
  have hne : sl.legs ≠ [] := List.ne_nil_of_mem hl
  refine ⟨h.1, Slot.fits_counted h hne, ?_⟩
  have hst := h.2
  split at hst
  · exact absurd (congrArg Slot.legs hst) hne
  · exact absurd hst.2.1 hne
  · next hs => exact ⟨hst.2.1, .inl ⟨hs, hst.2.2⟩⟩
  · next hs =>
    refine ⟨?_, .inr ⟨.inl hs, hst.1⟩⟩
    by_contra hr
    exact hst.2.2.1 (by simpa [Option.isSome_iff_ne_none] using hr) l hl hg
  · next hs => exact ⟨hst.2.1, .inr ⟨.inr hs, hst.2.2.1⟩⟩

/-- A slot that waits on its legs, one of them UNGRANTED or GRANTED, fits. -/
theorem Slot.awaitsLegs.fits (h : sl.awaitsLegs) (hl : ∃ l ∈ sl.legs, l.status = .ungranted ∨ l.status = .granted) :
    sl.fits := by
  obtain ⟨hnodup, hc, hr, hs⟩ := h
  obtain ⟨l, hmem, hst⟩ := hl
  refine ⟨hnodup, ?_⟩
  rcases hs with ⟨hs, hu⟩ | ⟨hs | hs, hno⟩ <;> rw [hs]
  · exact ⟨hc, hr, hu⟩
  · have hg : l.status = .granted := hst.resolve_left (hno l hmem)
    exact ⟨hno, fun _ => hc, by rw [hr]; exact ⟨nofun, fun h => absurd hg (h l hmem)⟩⟩
  · exact ⟨hc, hr, hno, l, hmem, hst.resolve_left (hno l hmem)⟩

theorem Slot.awaitsLegs.not_held (h : sl.awaitsLegs) : sl.state ≠ .held := by
  obtain ⟨_, _, _, ⟨hs, _⟩ | ⟨hs | hs, _⟩⟩ := h <;> rw [hs] <;> nofun

theorem Slot.awaitsLegs.not_free (h : sl.awaitsLegs) : sl.state ≠ .free := by
  obtain ⟨_, _, _, ⟨hs, _⟩ | ⟨hs | hs, _⟩⟩ := h <;> rw [hs] <;> nofun

/-- Every port fits, but for slot `k` of port `i`, which waits on its legs. -/
def PortsFitBut (i : Fin 4) (k : Fin 8) (s : State) : Prop :=
  ∀ j, (s.port j).frameFits ∧ ∀ l, if j = i ∧ l = k then (s.slot j l).awaitsLegs else (s.slot j l).fits

/-- What moves no transaction keeps the records of the ports. -/
theorem Unmoved.portsFit (h : Unmoved s t) (hs : PortsFit s) : PortsFit t := portsFit_iff.2 fun i =>
  h.port_keeps (Q := IPort.fits) (fun sel _ hp =>
    ⟨hp.1.release sel, fun k => slot_release (P := Slot.fits) (fun _ hheld hf => hf.mark hheld) sel (hp.2 k)⟩) (hs.port i)

theorem Unmoved.portsFitBut (h : Unmoved s t) {i : Fin 4} {k : Fin 8} (hs : PortsFitBut i k s) : PortsFitBut i k t :=
  fun j => by
    refine h.port_keeps (Q := fun p => p.frameFits ∧ ∀ l, if j = i ∧ l = k then (look p.slots l).awaitsLegs
      else (look p.slots l).fits) (fun sel p hp => ⟨hp.1.release sel, fun l => ?_⟩) (hs j)
    have hl := hp.2 l
    split at hl
    · next hjl =>
      rw [if_pos hjl]
      exact slot_release (P := Slot.awaitsLegs) (fun _ hheld hf => absurd hheld hf.not_held) sel hl
    · next hjl =>
      rw [if_neg hjl]
      exact slot_release (P := Slot.fits) (fun _ hheld hf => hf.mark hheld) sel hl

theorem Unmoved.ownersOwe (h : Unmoved s t) {p : Fin 4} {owed : List Owner} (hs : OwnersOwe p owed s) :
    OwnersOwe p owed t :=
  hs.of_alike (fun p => by rw [State.tport, h.tports]; rfl) (fun i k r t' => by obtain ⟨b, hb⟩ := h.slot i k; rw [hb]; rfl) h.engine

end Sys2Proof.Machine
end

section
/-! SUPPORT. One slot of a port changes: what its lists ask for when the slot leaves them or joins them (R73, R76, R77). -/

namespace Sys2Proof.Machine

variable {p : IPort} {k : Fin 8} {x : Slot}

/-- No list of the port names the slot. -/
structure Slot.unlisted (sl : Slot) : Prop where
  queue  : ∀ r t, ¬sl.queuesAt r t
  answer : ¬sl.answered
  waits  : ¬sl.awaitsResolution

theorem unlisted_of_free {sl : Slot} (h : sl.state = .free) : sl.unlisted :=
  ⟨fun r t => by simp [Slot.queuesAt, h], by simp [Slot.answered, h], by simp [Slot.awaitsResolution, h]⟩

theorem unlisted_of_orphaned {sl : Slot} (h : sl.state = .orphaned) : sl.unlisted :=
  ⟨fun r t => by simp [Slot.queuesAt, h], by simp [Slot.answered, h], by simp [Slot.awaitsResolution, h]⟩

theorem unlisted_of_held {sl : Slot} (h : sl.state = .held) (hr : sl.released = false) : sl.unlisted :=
  ⟨fun r t => by simp [Slot.queuesAt, h], by simp [Slot.answered, h], by simp [Slot.awaitsResolution, hr]⟩

theorem unlisted_of_issued {sl : Slot} (h : sl.state = .issued) (hr : sl.response = none) : sl.unlisted :=
  ⟨fun r t => by simp [Slot.queuesAt, h], by simp [Slot.answered, hr], by simp [Slot.awaitsResolution, h]⟩

theorem unlisted_blank : Slot.blank.unlisted := unlisted_of_free rfl

/-- A law of the slots that the old and the new slot agree on is not changed. -/
theorem iff_upd {P : Slot → Prop} (h : P x ↔ P (look p.slots k)) (j : Fin 8) :
    P (look (upd p.slots k x) j) ↔ P (look p.slots j) :=
  forall_upd (P := fun j sl => P sl ↔ P (look p.slots j)) h (fun _ _ => .rfl) j

theorem queuesFit_upd (h : p.queuesFit) {q : IPort} (hq : q.legQueues = p.legQueues) (hs : q.slots = upd p.slots k x)
    (hx : ∀ r t, x.queuesAt r t ↔ (look p.slots k).queuesAt r t) : q.queuesFit :=
  h.congr hq fun j r t => by rw [hs]; exact iff_upd (P := fun sl => sl.queuesAt r t) (hx r t) j

theorem answersFit_upd (h : p.answersFit) {q : IPort} (ha : q.answers = p.answers) (hc : q.collision = p.collision)
    (hs : q.slots = upd p.slots k x) (hx : x.answered ↔ (look p.slots k).answered) : q.answersFit :=
  h.congr ha hc fun j => by rw [hs]; exact iff_upd hx j

theorem resQueueFit_upd (h : p.resQueueFit) {q : IPort} (hr : q.resQueue = p.resQueue)
    (hs : q.slots = upd p.slots k x) (hx : x.awaitsResolution ↔ (look p.slots k).awaitsResolution) : q.resQueueFit :=
  h.congr hr fun j => by rw [hs]; exact iff_upd hx j

/-- The lists do not see a slot that they do not name, before or after. -/
theorem listsFit_unlisted (h : p.listsFit) (hk : (look p.slots k).unlisted) (hx : x.unlisted) :
    IPort.listsFit { p with slots := upd p.slots k x } := by
  obtain ⟨hq, ha, hr⟩ := listsFit_iff.1 h
  refine listsFit_iff.2 ⟨queuesFit_upd hq rfl rfl fun r t => ?_, answersFit_upd ha rfl rfl rfl ?_,
    resQueueFit_upd hr rfl rfl ?_⟩
  · exact iff_of_false (hx.queue r t) (hk.queue r t)
  · exact iff_of_false hx.answer hk.answer
  · exact iff_of_false hx.waits hk.waits

/-- A slot's response joins the answer list (R69, R70, R75). -/
theorem listsFit_answer (h : p.listsFit) (hk : (look p.slots k).unlisted) (hx : x.answered) :
    IPort.listsFit { p with slots := upd p.slots k x, answers := p.answers ++ [.slot k] } := by
  obtain ⟨hq, ⟨hnodup, hcol, hans⟩, hr⟩ := listsFit_iff.1 h
  have hnot : Answer.slot k ∉ p.answers := fun hm => hk.answer ((hans k).1 hm)
  refine listsFit_iff.2 ⟨queuesFit_upd hq rfl rfl fun r t => ?_, ⟨?_, ?_, fun j => ?_⟩, resQueueFit_upd hr rfl rfl ?_⟩
  · exact iff_of_false (by simp [Slot.queuesAt, hx.1]) (hk.queue r t)
  · refine List.nodup_append.2 ⟨hnodup, List.nodup_singleton _, fun a ha b hb e => hnot ?_⟩
    rwa [← List.mem_singleton.1 hb, ← e]
  · simpa using hcol
  · refine forall_upd (P := fun j sl => Answer.slot j ∈ p.answers ++ [.slot k] ↔ sl.answered) ?_ (fun j hj => ?_) j
    · simp [hx]
    · simp [hj, hans]
  · exact iff_of_false (by simp [Slot.awaitsResolution, hx.1]) hk.waits

/-- The head of the answer list is taken, and its slot leaves it (R76). -/
theorem listsFit_answered (h : p.listsFit) {rest : List Answer} (ha : p.answers = .slot k :: rest) (hx : x.unlisted) :
    IPort.listsFit { p with slots := upd p.slots k x, answers := rest } := by
  obtain ⟨hq, ⟨hnodup, hcol, hans⟩, hr⟩ := listsFit_iff.1 h
  have hk : (look p.slots k).answered := (hans k).1 (by rw [ha]; exact List.mem_cons_self ..)
  rw [ha] at hnodup hcol hans
  obtain ⟨hnot, hnodup'⟩ := List.nodup_cons.1 hnodup
  refine listsFit_iff.2 ⟨queuesFit_upd hq rfl rfl fun r t => ?_, ⟨hnodup', ?_, fun j => ?_⟩, resQueueFit_upd hr rfl rfl ?_⟩
  · exact iff_of_false (hx.queue r t) (by simp [Slot.queuesAt, hk.1])
  · simpa using hcol
  · refine forall_upd (P := fun j sl => Answer.slot j ∈ rest ↔ sl.answered) ?_ (fun j hj => ?_) j
    · exact iff_of_false hnot hx.answer
    · rw [← hans]; simp [hj]
  · exact iff_of_false hx.waits (by simp [Slot.awaitsResolution, hk.1])

/-- The legs of a slot that becomes WAITING join the leg queues (R73). -/
theorem listsFit_queueLegs (h : p.listsFit) (hk : (look p.slots k).unlisted) (hx : x.state = .waiting)
    (hroles : (x.legs.map Leg.role).Nodup) (hu : ∀ l ∈ x.legs, l.status = .ungranted) :
    IPort.listsFit { p with slots := upd p.slots k x, legQueues := queueLegs k x.legs p.legQueues } := by
  obtain ⟨hq, ha, hr⟩ := listsFit_iff.1 h
  rw [queueLegs_eq]
  refine listsFit_iff.2 ⟨fun t => ?_, answersFit_upd ha rfl rfl rfl ?_, resQueueFit_upd hr rfl rfl ?_⟩
  · obtain ⟨hnodup, href⟩ := hq t
    rw [look_tabulate]
    refine ⟨List.nodup_append.2 ⟨hnodup, ?_, fun ref hmem ref' hmem' => ?_⟩, fun ref => ?_⟩
    · have hsub : (((x.legs.filter fun l => decide (l.target = t)).map Leg.role)).Nodup :=
        hroles.sublist ((List.filter_sublist).map Leg.role)
      have : (((x.legs.filter fun l => decide (l.target = t)).map Leg.role).map (LegRef.mk k)).Nodup :=
        hsub.map fun a b e => by injection e
      rw [List.map_map] at this
      exact this
    · rintro rfl
      obtain ⟨l, _, rfl⟩ := List.mem_map.1 hmem'
      exact hk.queue _ _ ((href _).1 hmem)
    · rw [List.mem_append, href]
      refine forall_upd (P := fun j sl => ref.slot = j → ((look p.slots ref.slot).queuesAt ref.role t ∨
        ref ∈ ((x.legs.filter fun l => decide (l.target = t)).map fun l => LegRef.mk k l.role) ↔
          sl.queuesAt ref.role t)) (fun he => ?_) (fun j hj he => ?_) ref.slot rfl
      · rw [he, or_iff_right (hk.queue _ _)]
        simp only [List.mem_map, List.mem_filter, decide_eq_true_eq, Slot.queuesAt, hx, true_and]
        constructor
        · rintro ⟨l, ⟨hl, ht⟩, rfl⟩; exact ⟨l, hl, rfl, ht, hu l hl⟩
        · rintro ⟨l, hl, hrole, ht, _⟩; exact ⟨l, ⟨hl, ht⟩, by rw [← he, hrole]⟩
      · subst he
        refine or_iff_left fun hm => ?_
        obtain ⟨l, _, rfl⟩ := List.mem_map.1 hm
        exact hj rfl
  · exact iff_of_false (by simp [Slot.answered, hx]) hk.answer
  · exact iff_of_false (by simp [Slot.awaitsResolution, hx]) hk.waits

/-- In an ACTIVE port a slot may become any but an orphan (R67, R79). -/
theorem stateFits_upd {q : IPort} (h : p.stateFits) (ha : p.state = .active) (hq : q.state = p.state)
    (hi : q.irst = p.irst) (hs : q.slots = upd p.slots k x) (hx : x.state ≠ .orphaned) : q.stateFits := by
  obtain ⟨hirst, horph⟩ := (stateFits_active ha).1 h
  refine (stateFits_active (hq.trans ha)).2 ⟨hi.trans hirst, fun j => ?_⟩
  rw [hs]
  exact forall_upd (P := fun _ sl => sl.state ≠ .orphaned) hx (fun j _ => horph j) j

/-- The slots of a port with one changed fit when that one does. -/
theorem slotsFit_upd {v : Vector Slot 8} (h : ∀ j, j ≠ k → (look v j).fits) (hx : x.fits) (j : Fin 8) :
    (look (upd v k x) j).fits := forall_upd (P := fun _ sl => sl.fits) hx h j

end Sys2Proof.Machine
end

section
/-! SUPPORT. The results of requests reach their owners: a leg's result finishes its slot, a copy request's result goes to
the engine, and no request, response or count is lost (R74, R75, R80, R86, R96). -/

namespace Sys2Proof.Machine

variable {s t u v : State} {p : Fin 4} {owed : List Owner}

/-! ## Uncounts -/

theorem portsFit_uncountIf (h : PortsFit s) (c : Option Counted) : PortsFit (uncountIf c s) := by
  cases c with
  | none => exact h
  | some c => exact (unmoved_uncount c).portsFit (h.of_ports rfl)

theorem ownersOwe_uncountIf (h : OwnersOwe p owed s) (c : Option Counted) : OwnersOwe p owed (uncountIf c s) := by
  cases c with
  | none => exact h
  | some c => exact (unmoved_uncount c).ownersOwe (h.of_alike (fun _ => rfl) (fun _ _ _ _ => rfl) rfl)

/-- A transaction that is owed an uncount is uncounted (R49, R50). -/
theorem countsOwe_uncountIf {c : Option Counted} {cs : List (Option Counted)} (h : CountsOwe (c :: cs) s) :
    CountsOwe cs (uncountIf c s) := by
  cases c with
  | none =>
    refine h.of_alike (fun _ => ⟨rfl, rfl, rfl⟩) fun q hq => ?_
    simp [List.countP_append, hq, uncountIf]
  | some c => exact (unmoved_uncount c).counts cs h.decrement

/-! ## The legs of a slot -/

/-- With every role once, the legs like a leg of the slot in role and another respect are that leg or none. -/
theorem countP_role {ls : List Leg} (hroles : (ls.map Leg.role).Nodup) {l : Leg} (hl : l ∈ ls) (P : Leg → Prop)
    [DecidablePred P] : ls.countP (fun m => decide (m.role = l.role ∧ P m)) = if P l then 1 else 0 := by
  have hperm := List.perm_cons_erase hl
  have hnot : ∀ m ∈ ls.erase l, m.role ≠ l.role := by
    have := (hperm.map Leg.role).nodup_iff.1 hroles
    rw [List.map_cons, List.nodup_cons] at this
    exact fun m hm he => this.1 (List.mem_map.2 ⟨m, hm, he⟩)
  rw [hperm.countP_eq, List.countP_cons, List.countP_eq_zero.2 fun m hm => by simp [hnot m hm]]
  simp

/-- The GRANTED leg of a role is the only one of that role. -/
theorem granted_eq {sl : Slot} (hroles : (sl.legs.map Leg.role).Nodup) {l : Leg} (hl : l ∈ sl.legs) (t : Fin 4) :
    sl.granted l.role t = if l.target = t ∧ l.status = .granted then 1 else 0 :=
  countP_role hroles hl fun m => m.target = t ∧ m.status = .granted

theorem granted_pos {sl : Slot} {r : LegRole} {t : Fin 4} (h : 0 < sl.granted r t) :
    ∃ l ∈ sl.legs, l.role = r ∧ l.target = t ∧ l.status = .granted := by
  obtain ⟨l, hl, hp⟩ := List.countP_pos_iff.1 h
  exact ⟨l, hl, by simpa using hp⟩

theorem mem_setLegStatus {r : LegRole} {st : LegStatus} {ls : List Leg} {m : Leg} :
    m ∈ setLegStatus r st ls ↔ (∃ l ∈ ls, l.role = r ∧ m = { l with status := st }) ∨ m ∈ ls ∧ m.role ≠ r := by
  simp only [setLegStatus, List.mem_map]
  constructor
  · rintro ⟨l, hl, rfl⟩
    split
    · next hr => exact .inl ⟨l, hl, hr, rfl⟩
    · next hr => exact .inr ⟨hl, hr⟩
  · rintro (⟨l, hl, hr, rfl⟩ | ⟨hm, hr⟩)
    · exact ⟨l, hl, if_pos hr⟩
    · exact ⟨m, hm, if_neg hr⟩

theorem setLegStatus_roles (r : LegRole) (st : LegStatus) (ls : List Leg) :
    (setLegStatus r st ls).map Leg.role = ls.map Leg.role := by
  simp only [setLegStatus, List.map_map]
  exact List.map_congr_left fun l _ => by simp only [Function.comp]; split <;> rfl

/-- Setting the status of one leg changes the GRANTED legs of its role alone. -/
theorem granted_setLegStatus {sl : Slot} (hroles : (sl.legs.map Leg.role).Nodup) {l : Leg} (hl : l ∈ sl.legs)
    (st : LegStatus) {x : Slot} (hx : x.legs = setLegStatus l.role st sl.legs) (r : LegRole) (t : Fin 4) :
    x.granted r t = if r = l.role then (if l.target = t ∧ st = .granted then 1 else 0) else sl.granted r t := by
  by_cases hr : r = l.role
  · subst hr
    have hmem : { l with status := st } ∈ x.legs := by rw [hx]; exact mem_setLegStatus.2 (.inl ⟨l, hl, rfl, rfl⟩)
    rw [if_pos rfl]
    exact granted_eq (l := { l with status := st }) (by rw [hx, setLegStatus_roles]; exact hroles) hmem t
  · rw [if_neg hr, Slot.granted, Slot.granted, hx, setLegStatus, List.countP_map]
    refine List.countP_congr fun m _ => ?_
    simp only [Function.comp]
    split
    · next hm => simp [hm, Ne.symm hr]
    · exact .rfl

/-! ## A change of one slot beside the requests -/

/-- The requests at the Target Ports and those to come stand right when one slot changes with what is owed to it. -/
theorem OwnersOwe.slot {owed' : List Owner} {i : Fin 4} {k : Fin 8} (h : OwnersOwe p owed s)
    (hq : ∀ t', (t.tport t').owners = (s.tport t').owners) (ho : t.eng.outstanding = s.eng.outstanding)
    (hne : ∀ j l, ¬(j = i ∧ l = k) → ∀ r t', (t.slot j l).granted r t' = (s.slot j l).granted r t')
    (hother : ∀ o, (∀ r, o ≠ .leg i k r) → owed'.count o = owed.count o)
    (hk : ∀ r t', (t.slot i k).granted r t' + (if t' = p then owed.count (.leg i k r) else 0) =
      (s.slot i k).granted r t' + if t' = p then owed'.count (.leg i k r) else 0) : OwnersOwe p owed' t := by
  refine ⟨fun t' j l r => ?_, ?_⟩
  · rw [hq]
    have hs := h.1 t' j l r
    by_cases hjl : j = i ∧ l = k
    · obtain ⟨rfl, rfl⟩ := hjl
      have := hk r t'
      omega
    · rw [hne j l hjl, hother _ fun r' e => hjl (by injection e with h1 h2 h3; exact ⟨h1, h2⟩)]
      exact hs
  · rw [hother .meng fun r e => nomatch e]
    simp only [hq, ho]
    exact h.2

/-! ## Leg results -/

/-- A result is recorded in the slot of its leg (R74). -/
def Slot.recorded (r : LegRole) (st : LegStatus) (bytes : Option (List Byte)) (sl : Slot) : Slot :=
  { sl with legs := setLegStatus r st sl.legs, readData := bytes }

/-- A leg's result is recorded, perhaps reported to the engine, which moves no transaction, and may finish its slot
(R74). -/
theorem legResult_cases (i : Fin 4) (k : Fin 8) (r : LegRole) (code : TargetCode) (data : List Byte) (s : State) :
    ∃ st bytes v, (st = .ok ∨ st = .error) ∧ Unmoved (s.modSlot i k (Slot.recorded r st bytes)) v ∧
      MapKept (s.modSlot i k (Slot.recorded r st bytes)) v ∧ legResult i k r code data s = finishSlot i k v := by
  have hrep {w : State} : Unmoved w (reportMirror i k r w) := by
    unfold reportMirror
    dsimp only
    split
    · exact unmoved_mirrorReport _ _
    · exact .refl
  let bytes := if r = .read ∧ code = .ok ∧ (s.slot i k).state ≠ .orphaned then some data else (s.slot i k).readData
  cases code with
  | ok => exact ⟨.ok, bytes, s.modSlot i k (Slot.recorded r .ok bytes), .inl rfl, .refl, .refl, rfl⟩
  | error =>
    exact ⟨.error, bytes, reportMirror i k r (s.modSlot i k (Slot.recorded r .error bytes)), .inr rfl, hrep,
      kept_reportMirror i k r, rfl⟩

/-- The slot of a recorded result waits on its legs, the leg with the result finished. -/
theorem Slot.awaitsLegs.recorded {sl : Slot} (h : sl.awaitsLegs) {l : Leg} (hl : l ∈ sl.legs)
    (hg : l.status = .granted) {st : LegStatus} (hst : st = .ok ∨ st = .error) (bytes : Option (List Byte)) :
    (sl.recorded l.role st bytes).awaitsLegs := by
  obtain ⟨hroles, hc, hr, hs⟩ := h
  have hne : st ≠ .ungranted := by rcases hst with rfl | rfl <;> nofun
  refine ⟨(setLegStatus_roles ..).symm ▸ hroles, hc, hr, ?_⟩
  rcases hs with ⟨hs, m, hm, hmu⟩ | ⟨hs, hno⟩
  · refine .inl ⟨hs, m, mem_setLegStatus.2 (.inr ⟨hm, fun he => ?_⟩), hmu⟩
    have : m = l := List.inj_on_of_nodup_map hroles hm hl he
    rw [this, hg] at hmu; cases hmu
  · refine .inr ⟨hs, fun m hm => ?_⟩
    rcases mem_setLegStatus.1 hm with ⟨m', _, _, rfl⟩ | ⟨hm', _⟩
    · exact hne
    · exact hno m hm'

theorem portsFitBut_recorded (h : PortsFit s) {i : Fin 4} {k : Fin 8} {l : Leg} (hl : l ∈ (s.slot i k).legs)
    (hg : l.status = .granted) {st : LegStatus} (hst : st = .ok ∨ st = .error) (bytes : Option (List Byte)) :
    PortsFitBut i k (s.modSlot i k (Slot.recorded l.role st bytes)) := by
  have hawaits : (s.slot i k).awaitsLegs := ((h.port i).2 k).awaitsLegs hl hg
  have hrec := hawaits.recorded hl hg hst bytes
  intro j
  refine ⟨?_, fun n => ?_⟩
  · rw [State.modSlot_port]
    split
    · next hj =>
      subst hj
      obtain ⟨hlists, hstate⟩ := (h.port j).1
      refine ⟨?_, hstate.congr rfl rfl rfl fun n => ?_⟩
      · obtain ⟨hq, ha, hr⟩ := listsFit_iff.1 hlists
        refine listsFit_iff.2 ⟨queuesFit_upd hq rfl rfl fun r t => ?_, answersFit_upd ha rfl rfl rfl .rfl,
          resQueueFit_upd hr rfl rfl .rfl⟩
        refine and_congr_right fun _ => ⟨?_, ?_⟩
        · rintro ⟨m, hm, hr, ht, hu⟩
          rcases mem_setLegStatus.1 hm with ⟨m', _, _, rfl⟩ | ⟨hm', _⟩
          · rcases hst with rfl | rfl <;> cases hu
          · exact ⟨m, hm', hr, ht, hu⟩
        · rintro ⟨m, hm, hr, ht, hu⟩
          refine ⟨m, mem_setLegStatus.2 (.inr ⟨hm, fun he => ?_⟩), hr, ht, hu⟩
          have : m = l := List.inj_on_of_nodup_map hawaits.1 hm hl he
          rw [this, hg] at hu; cases hu
      · exact forall_upd (P := fun n sl => sl.state = (look (s.port j).slots n).state) (k := k)
          (x := (s.slot j k).recorded l.role st bytes) rfl (fun _ _ => rfl) n
    · exact (h.port j).1
  · rw [State.modSlot_slot]
    split
    · exact hrec
    · exact (h.port j).2 n

/-- The requests stand right when a result has reached its leg: the leg is GRANTED no more. -/
theorem ownersOwe_recorded {i : Fin 4} {k : Fin 8} {l : Leg} (h : OwnersOwe p (.leg i k l.role :: owed) s)
    (hroles : ((s.slot i k).legs.map Leg.role).Nodup) (hl : l ∈ (s.slot i k).legs) (ht : l.target = p)
    (hg : l.status = .granted) {st : LegStatus} (hst : st = .ok ∨ st = .error) (bytes : Option (List Byte)) :
    OwnersOwe p owed (s.modSlot i k (Slot.recorded l.role st bytes)) := by
  have hne : st ≠ .granted := by rcases hst with rfl | rfl <;> nofun
  refine h.slot (i := i) (k := k) (fun _ => rfl) rfl (fun j n hjn r t' => ?_) (fun o ho => ?_) fun r t' => ?_
  · rw [State.modSlot_slot, if_neg hjn]
  · exact (List.count_cons_of_ne fun e => ho _ e.symm).symm
  · rw [State.modSlot_slot_self, granted_setLegStatus hroles hl st rfl]
    split
    · next hr =>
      subst hr
      rw [granted_eq hroles hl]
      simp only [hne, hg, and_false, if_false, and_true, ht, List.count_cons_self]
      by_cases hp : t' = p
      · simp [hp]; omega
      · simp [hp, Ne.symm hp]
    · next hr => rw [List.count_cons_of_ne fun e => hr (by injection e with _ _ e; exact e.symm)]

/-! ## The finishing of a slot -/

/-- The laws of the slots, with `owed` the owners of requests that have left port `p` and whose results are still to
come, and with the laws of the map that they rest on. -/
structure Underway (p : Fin 4) (owed : List Owner) (s : State) : Prop where
  ports  : PortsFit s
  owners : OwnersOwe p owed s
  counts : CountsOwe [] s
  map    : MapFits s

theorem Unmoved.underway (h : Unmoved s t) (k : MapKept s t) (hs : Underway p owed s) : Underway p owed t :=
  ⟨h.portsFit hs.ports, h.ownersOwe hs.owners, h.counts [] hs.counts, k.fits hs.map⟩

theorem PortsFitBut.port_ne {i : Fin 4} {k : Fin 8} (h : PortsFitBut i k s) {j : Fin 4} (hj : j ≠ i) : (s.port j).fits :=
  ⟨(h j).1, fun n => by have := (h j).2 n; rwa [if_neg fun e => hj e.1] at this⟩

theorem PortsFitBut.awaits {i : Fin 4} {k : Fin 8} (h : PortsFitBut i k s) : (s.slot i k).awaitsLegs := by
  have := (h i).2 k
  rwa [if_pos ⟨rfl, rfl⟩] at this

theorem PortsFitBut.slot_ne {i : Fin 4} {k : Fin 8} (h : PortsFitBut i k s) {n : Fin 8} (hn : n ≠ k) :
    (s.slot i n).fits := by
  have := (h i).2 n
  rwa [if_neg fun e => hn e.2] at this

/-- Every port fits when the one slot does. -/
theorem PortsFitBut.portsFit {i : Fin 4} {k : Fin 8} (h : PortsFitBut i k s) (hk : (s.slot i k).fits) : PortsFit s :=
  portsFit_iff.2 fun j => ⟨(h j).1, fun n => by
    have := (h j).2 n
    split at this
    · next e => rw [e.1, e.2]; exact hk
    · exact this⟩

/-- Every port fits when the one port is made to. -/
theorem PortsFitBut.modPort {i : Fin 4} {k : Fin 8} (h : PortsFitBut i k s) {f : IPort → IPort}
    (hf : (f (s.port i)).fits) : PortsFit (s.modPort i f) := portsFit_iff.2 fun j => by
  rw [State.modPort_port]
  split
  · exact hf
  · next hj => exact h.port_ne hj

/-- A port that wakes fits, when it was RESETTING with no slot but FREE ones and orphans (R81). -/
theorem wakeFromReset_fits {q : IPort} (hlists : q.listsFit) (hslots : ∀ k, (look q.slots k).fits)
    (hres : q.state = .resetting) (hcol : q.collision = none)
    (hstate : ∀ k, (look q.slots k).state = .free ∨ (look q.slots k).state = .orphaned) : q.wakeFromReset.fits := by
  unfold IPort.wakeFromReset
  split
  · next hw =>
    have hfree (k : Fin 8) : (look q.slots k).state = .free := by
      have := List.all_eq_true.1 hw.2.2 k (mem_slotIdxs k)
      simpa using this
    refine ⟨⟨listsFit_iff.2 ⟨fun t => ?_, ⟨List.nodup_nil, by simp, fun k => ?_⟩, List.nodup_nil, fun k => ?_⟩,
      (stateFits_active rfl).2 ⟨hw.2.1, fun k => by simp [hfree]⟩⟩, hslots⟩
    · simp only [look_replicate]
      exact ⟨List.nodup_nil, fun ref => iff_of_false nofun ((unlisted_of_free (hfree _)).queue _ _)⟩
    · exact iff_of_false nofun (unlisted_of_free (hfree k)).answer
    · exact iff_of_false nofun (unlisted_of_free (hfree k)).waits
  · next hw =>
    refine ⟨⟨hlists, iff_of_true hres ?_, fun _ => ⟨hcol, hstate⟩⟩, hslots⟩
    by_contra hno
    rw [not_or] at hno
    refine hw ⟨hres, by simpa using hno.1, List.all_eq_true.2 fun k _ => ?_⟩
    exact decide_eq_true ((hstate k).resolve_right fun ho => hno.2 ⟨k, ho⟩)

/-- The response of an ISSUED slot whose legs have all finished joins the answer list (R75). -/
theorem underway_formResponse {i : Fin 4} {k : Fin 8} (hp : PortsFitBut i k s) (ho : OwnersOwe p owed s)
    (hc : CountsOwe [] s) (hm : MapFits s) (hs : (s.slot i k).state = .issued)
    (hfin : ∀ l ∈ (s.slot i k).legs, l.status ≠ .granted) (code : RespCode) :
    Underway p owed (formResponse i k code s) := by
  obtain ⟨hroles, hcount, hresp, hst⟩ := hp.awaits
  obtain ⟨hlists, hstate⟩ := (hp i).1
  have hsame (j : Fin 4) (n : Fin 8) : ((formResponse i k code s).slot j n).legs = (s.slot j n).legs ∧
      ((formResponse i k code s).slot j n).counted = (s.slot j n).counted := by
    rw [show (formResponse i k code s).slot j n = _ from modPort_slot rfl j n]
    split
    · next e => rw [e.1, e.2]; exact ⟨rfl, rfl⟩
    · exact ⟨rfl, rfl⟩
  refine ⟨hp.modPort ⟨⟨listsFit_answer hlists (unlisted_of_issued hs hresp) ⟨rfl, rfl⟩, ?_⟩, ?_⟩,
    ho.of_alike (fun _ => rfl) (fun j n r t' => ?_) rfl, hc.congr rfl fun j n => (hsame j n).2,
    (MapKept.of_same rfl rfl).fits hm⟩
  · have hact := hstate.active_of_inUse (k := k) (fun h => nomatch hs.symm.trans h) (fun h => nomatch hs.symm.trans h)
    exact stateFits_upd hstate hact rfl rfl rfl nofun
  · refine slotsFit_upd (fun n hn => hp.slot_ne hn) ⟨hroles, ?_⟩
    have hno : ∀ l ∈ (s.slot i k).legs, l.status ≠ .ungranted := by
      rcases hst with ⟨h, _⟩ | ⟨_, h⟩
      · rw [hs] at h; cases h
      · exact h
    exact ⟨hno, fun _ => hcount, iff_of_true rfl hfin⟩
  · rw [Slot.granted, Slot.granted, (hsame j n).1]

/-- A slot is freed: what it was counted on is owed an uncount (R76, R80). -/
theorem countsOwe_freed {i : Fin 4} {k : Fin 8} (h : CountsOwe [] s) {f : IPort → IPort}
    (hf : (f (s.port i)).slots = upd (s.port i).slots k Slot.blank) :
    CountsOwe [(s.slot i k).counted] (s.modPort i f) := by
  refine h.of_alike (fun _ => ⟨rfl, rfl, rfl⟩) fun q hq => ?_
  refine counteds_of_slot (i := i) (k := k) (fun j hj => State.modPort_port_ne _ _ hj) (fun n hn => ?_) ?_
  · rw [modPort_slot hf, if_neg fun e => hn e.2]
  · rw [modPort_slot hf, if_pos ⟨rfl, rfl⟩]
    simp [Slot.blank, hq, List.countP_cons]

/-- A slot without a GRANTED leg is freed: no request is lost (R76, R80). -/
theorem ownersOwe_freed {i : Fin 4} {k : Fin 8} (h : OwnersOwe p owed s) {f : IPort → IPort}
    (hf : (f (s.port i)).slots = upd (s.port i).slots k Slot.blank)
    (hfin : ∀ l ∈ (s.slot i k).legs, l.status ≠ .granted) : OwnersOwe p owed (s.modPort i f) := by
  refine h.of_alike (fun _ => rfl) (fun j n r t' => ?_) rfl
  rw [modPort_slot hf]
  split
  · next e => rw [e.1, e.2]; exact (List.countP_eq_zero.2 fun l hl => by simp [hfin l hl]).symm
  · rfl

/-- An ORPHANED slot whose legs have all finished is freed (R80). -/
theorem underway_freeOrphan {i : Fin 4} {k : Fin 8} (hp : PortsFitBut i k s) (ho : OwnersOwe p owed s)
    (hc : CountsOwe [] s) (hm : MapFits s) (hs : (s.slot i k).state = .orphaned)
    (hfin : ∀ l ∈ (s.slot i k).legs, l.status ≠ .granted) : Underway p owed (freeOrphan i k s) := by
  have hslots : (IPort.wakeFromReset { s.port i with slots := upd (s.port i).slots k Slot.blank }).slots =
      upd (s.port i).slots k Slot.blank := by unfold IPort.wakeFromReset; split <;> rfl
  obtain ⟨hlists, hstate⟩ := (hp i).1
  have hres : (s.port i).state = .resetting := hstate.1.2 (.inr ⟨k, hs⟩)
  obtain ⟨hcol, hstates⟩ := hstate.2 hres
  refine ⟨portsFit_uncountIf (hp.modPort (f := fun q => IPort.wakeFromReset { q with slots := upd q.slots k Slot.blank })
      (wakeFromReset_fits ?_ ?_ hres hcol ?_)) _,
    ownersOwe_uncountIf (ownersOwe_freed ho hslots hfin) _, countsOwe_uncountIf (countsOwe_freed hc hslots),
    (kept_uncountIf _).fits ((MapKept.of_same rfl rfl).fits hm)⟩
  · exact listsFit_unlisted hlists (unlisted_of_orphaned hs) unlisted_blank
  · exact slotsFit_upd (fun n hn => hp.slot_ne hn) blank_fits
  · exact forall_upd (P := fun _ sl => sl.state = .free ∨ sl.state = .orphaned) (.inl rfl) fun n _ => hstates n

theorem underway_finishSlot {i : Fin 4} {k : Fin 8} (hp : PortsFitBut i k s) (ho : OwnersOwe p owed s)
    (hc : CountsOwe [] s) (hm : MapFits s) : Underway p owed (finishSlot i k s) := by
  have hawaits := hp.awaits
  unfold finishSlot
  dsimp only
  split
  · next hall =>
    have hfin : ∀ l ∈ (s.slot i k).legs, l.status ≠ .granted ∧ l.status ≠ .ungranted := fun l hl => by
      have := List.all_eq_true.1 hall l hl
      simp only [Leg.finished, Bool.or_eq_true, decide_eq_true_eq] at this
      rcases this with h | h <;> simp [h]
    split
    · next hs => exact underway_formResponse hp ho hc hm hs (fun l hl => (hfin l hl).1) _
    · next hs => exact underway_freeOrphan hp ho hc hm hs fun l hl => (hfin l hl).1
    · next hs =>
      obtain ⟨_, _, _, ⟨_, l, hl, hu⟩ | ⟨h | h, _⟩⟩ := hawaits
      · exact absurd hu (hfin l hl).2
      · rw [hs] at h; cases h
      · rw [hs] at h; cases h
    · next hs => exact absurd hs hawaits.not_held
    · next hs => exact absurd hs hawaits.not_free
  · next hall =>
    obtain ⟨l, hl, hno⟩ : ∃ l ∈ (s.slot i k).legs, l.finished = false := by
      simpa [List.all_eq_true] using hall
    refine ⟨hp.portsFit (hawaits.fits ⟨l, hl, ?_⟩), ho, hc, hm⟩
    cases hst : l.status <;> simp_all [Leg.finished]

/-! ## Results -/

/-- A leg's result is delivered (R74). -/
theorem underway_legResult {i : Fin 4} {k : Fin 8} {r : LegRole} (h : Underway p (.leg i k r :: owed) s)
    (code : TargetCode) (data : List Byte) : Underway p owed (legResult i k r code data s) := by
  obtain ⟨l, hl, rfl, ht, hg⟩ : ∃ l ∈ (s.slot i k).legs, l.role = r ∧ l.target = p ∧ l.status = .granted := by
    refine granted_pos ?_
    have := h.owners.1 p i k r
    rw [if_pos rfl, List.count_cons_self] at this
    omega
  obtain ⟨st, bytes, v, hst, hv, hkept, heq⟩ := legResult_cases i k l.role code data s
  have hroles : ((s.slot i k).legs.map Leg.role).Nodup := ((h.ports.port i).2 k).1
  have hcounts : CountsOwe [] (s.modSlot i k (Slot.recorded l.role st bytes)) := h.counts.congr rfl fun j n => by
    rw [State.modSlot_slot]
    split
    · next e => rw [e.1, e.2]; rfl
    · rfl
  have hrec : MapFits (s.modSlot i k (Slot.recorded l.role st bytes)) := (MapKept.of_same rfl rfl).fits h.map
  rw [heq]
  exact underway_finishSlot (hv.portsFitBut (portsFitBut_recorded h.ports hl hg hst bytes))
    (hv.ownersOwe (ownersOwe_recorded h.owners hroles hl ht hg hst bytes)) (hv.counts [] hcounts) (hkept.fits hrec)

end Sys2Proof.Machine
end

section
/-! SUPPORT. The record of a Target Port stays one that R83, R84, R92, R96 and R98 allow, whatever is done to it. -/

namespace Sys2Proof.Machine

variable {s t u : State} {p q : TPort}

/-- The requests outstanding are numbered in turn up to the next number (R84). -/
def TPort.numbered (p : TPort) : Prop :=
  ∀ k r, p.queue[k]? = some r → r.num = p.nextNum - BitVec.ofNat 4 (p.queue.length - k)

/-- A timer that runs is between 1 and 2,550 microseconds (R92). -/
def timerFits (timer : Option Nat) : Prop := ∀ n, timer = some n → 1 ≤ n ∧ n ≤ 2550

theorem loadTimer_fits {field : Nat} (h : field ≤ 255) : timerFits (loadTimer field) := fun n hn => by
  unfold loadTimer at hn
  split at hn
  · cases hn
  · cases hn; omega

theorem timeoutOf_le (w : Word) (t : Fin 4) : timeoutOf w t ≤ 255 :=
  Nat.le_of_lt_succ (Nat.mod_lt _ (by decide : 0 < 2 ^ 8))

/-- The record of an ONLINE port that is not restoring. -/
theorem fits_online (hst : p.state = .online) (hr : p.restoring = none) (hlen : p.queue.length ≤ 16)
    (hnum : p.numbered) (ht : timerFits p.timer) (hq : p.timer.isSome = true → p.queue ≠ []) : p.fits := by
  refine ⟨hlen, hnum, fun h => ?_, fun h => ?_, fun n h => ?_, fun n h => ?_⟩
  · rw [hst] at h; cases h
  · rw [hr] at h; cases h
  · rw [hr] at h; cases h
  · exact ⟨(ht n h).1, (ht n h).2, hq (by rw [h]; rfl)⟩

theorem TPort.fits.not_restoring (h : p.fits) (hst : p.state = .online) : p.restoring = none := by
  obtain ⟨_, _, _, hr, _⟩ := h
  by_contra hne
  rw [hr (Option.isSome_iff_ne_none.2 hne)] at hst; cases hst

theorem TPort.fits.timerFits (h : p.fits) : timerFits p.timer := fun n hn => by
  obtain ⟨_, _, _, _, _, ht⟩ := h
  exact ⟨(ht n hn).1, (ht n hn).2.1⟩

theorem TPort.fits.timer_queue (h : p.fits) (ht : p.timer.isSome = true) : p.queue ≠ [] := by
  obtain ⟨n, hn⟩ := Option.isSome_iff_exists.1 ht
  obtain ⟨_, _, _, _, _, ht⟩ := h
  exact (ht n hn).2.2

/-- A granted request takes the next number at the tail (R84, R89). -/
theorem push_fits (h : p.fits) (hst : p.state = .online) (hroom : p.queue.length < 16) {timeout : Nat}
    (ht : timeout ≤ 255) (b : ReqBody) (o : Owner) : (p.push timeout b o).fits := by
  have htimer := h.timerFits
  refine fits_online hst (h.not_restoring hst) ?_ (fun k r hk => ?_) ?_ fun _ => ?_
  · simp only [TPort.push, List.length_append, List.length_singleton]; omega
  · simp only [TPort.push, List.length_append, List.length_singleton] at hk ⊢
    rcases Nat.lt_trichotomy k p.queue.length with hlt | rfl | hgt
    · rw [List.getElem?_append_left hlt] at hk
      rw [h.2.1 k r hk, show p.queue.length + 1 - k = p.queue.length - k + 1 by omega, BitVec.ofNat_add]
      exact (add_sub_add_right_eq_sub ..).symm
    · rw [List.getElem?_concat_length] at hk
      cases hk
      rw [Nat.add_sub_cancel_left]
      exact (add_sub_cancel_right ..).symm
    · rw [List.getElem?_eq_none (by simp; omega)] at hk; cases hk
  · unfold TPort.push
    dsimp only
    split
    · exact loadTimer_fits ht
    · exact htimer
  · simp [TPort.push]

/-- The oldest request leaves the queue, and the timer is loaded anew or stops (R86, R92). -/
theorem pop_fits {r : TReq} {rest : List TReq} (h : p.fits) (hst : p.state = .online) (hq : p.queue = r :: rest)
    {timeout : Nat} (ht : timeout ≤ 255) :
    TPort.fits { p with queue := rest, timer := if rest.isEmpty then none else loadTimer timeout } := by
  obtain ⟨hlen, hnum, _⟩ := id h
  rw [hq] at hlen hnum
  refine fits_online hst (h.not_restoring hst) (by simp at hlen ⊢; omega) (fun k r' hk => ?_) ?_ fun hs => ?_
  · have := hnum (k + 1) r' (by simpa using hk)
    simpa only [List.length_cons, Nat.add_sub_add_right] using this
  · dsimp only
    split
    · nofun
    · exact loadTimer_fits ht
  · rintro rfl; simp at hs

/-- A port that enters OFFLINE (R96). -/
theorem offline_fits (h : p.fits) : TPort.fits { p with state := .offline, queue := [], timer := none } := by
  obtain ⟨_, _, _, _, hr, _⟩ := h
  exact ⟨Nat.zero_le _, nofun, fun _ => ⟨rfl, rfl⟩, fun _ => rfl, hr, nofun⟩

/-- The target takes a request from the channel: nothing else of the requests changes (R85). -/
theorem takeFirst_map {α : Type} {f : TReq → α} (hf : ∀ r : TReq, f { r with taken := true } = f r) (l : List TReq) :
    (takeFirst l).map f = l.map f := by
  induction l with
  | nil => rfl
  | cons r l ih =>
    unfold takeFirst
    split
    · rw [List.map_cons, List.map_cons, ih]
    · rw [List.map_cons, List.map_cons, hf]

theorem taken_fits (h : p.fits) : TPort.fits { p with queue := takeFirst p.queue } := by
  obtain ⟨hlen, hnum, hoff, hr, hn, ht⟩ := h
  have hlength : (takeFirst p.queue).length = p.queue.length := by
    simpa using congrArg List.length (takeFirst_map (f := TReq.num) (fun _ => rfl) p.queue)
  have hnil : takeFirst p.queue = [] ↔ p.queue = [] := by rw [← List.length_eq_zero_iff, hlength, List.length_eq_zero_iff]
  refine ⟨hlength ▸ hlen, fun k r hk => ?_, fun hst => ⟨hnil.2 (hoff hst).1, (hoff hst).2⟩, hr, hn,
    fun n hn => ⟨(ht n hn).1, (ht n hn).2.1, fun he => (ht n hn).2.2 (hnil.1 he)⟩⟩
  have hmap : p.queue[k]?.map TReq.num = some r.num := by
    have := congrArg (fun l : List (BitVec 4) => l[k]?) (takeFirst_map (f := TReq.num) (fun _ => rfl) p.queue)
    simp only [List.getElem?_map] at this
    rw [← this, hk]; rfl
  obtain ⟨r', hr', he⟩ := Option.map_eq_some_iff.1 hmap
  rw [← he, hnum k r' hr']
  simp only [hlength]

/-- A write of TGT_TIMEOUT loads or stops the timer of a port (R94). -/
theorem reload_fits (h : p.fits) {timeout : Nat} (ht : timeout ≤ 255)
    (hc : p.timer.isSome = true ∨ p.state = .online ∧ p.queue ≠ []) :
    TPort.fits { p with timer := loadTimer timeout } := by
  obtain ⟨hlen, hnum, hoff, hr, hn, _⟩ := id h
  have hq : p.queue ≠ [] := hc.elim h.timer_queue And.right
  refine ⟨hlen, hnum, fun hst => absurd (hoff hst).1 hq, hr, hn, fun n hl => ?_⟩
  exact ⟨(loadTimer_fits ht n hl).1, (loadTimer_fits ht n hl).2, hq⟩

theorem stopped_fits (h : p.fits) : TPort.fits { p with timer := none } := by
  obtain ⟨hlen, hnum, hoff, hr, hn, _⟩ := h
  exact ⟨hlen, hnum, fun hst => ⟨(hoff hst).1, rfl⟩, hr, hn, nofun⟩

/-- The restore interval of an OFFLINE port begins (R98). -/
theorem restoring_fits (h : p.fits) (hst : p.state ≠ .online) : TPort.fits { p with restoring := some 16 } := by
  obtain ⟨hlen, hnum, hoff, _, _, ht⟩ := h
  refine ⟨hlen, hnum, hoff, fun _ => ?_, fun n hn => ?_, ht⟩
  · cases hs : p.state with
    | online => exact absurd hs hst
    | offline => rfl
  · cases hn; omega

/-- The restore interval of a port ends (R99). -/
theorem restored_fits :
    TPort.fits { p with state := .online, restoring := none, queue := [], nextNum := 0, timer := none } :=
  fits_online rfl rfl (Nat.zero_le _) nofun nofun nofun

theorem countDown_bounds {n m : Nat} (h : 1 ≤ n ∧ n ≤ m) : 1 ≤ countDown n ∧ countDown n ≤ m := by
  unfold countDown; split <;> omega

/-- A microsecond passes at a port (R92, R98). -/
theorem counted_fits (h : p.fits) :
    TPort.fits { p with timer := p.timer.map countDown, restoring := p.restoring.map countDown } := by
  obtain ⟨hlen, hnum, hoff, hr, hn, ht⟩ := h
  refine ⟨hlen, hnum, fun hst => ⟨(hoff hst).1, by simp [(hoff hst).2]⟩, fun hs => hr (by simpa using hs),
    fun n he => ?_, fun n he => ?_⟩
  · obtain ⟨m, hm, rfl⟩ := Option.map_eq_some_iff.1 he
    exact countDown_bounds (hn m hm)
  · obtain ⟨m, hm, rfl⟩ := Option.map_eq_some_iff.1 he
    obtain ⟨h1, h2, hq⟩ := ht m hm
    exact ⟨(countDown_bounds ⟨h1, h2⟩).1, (countDown_bounds ⟨h1, h2⟩).2, hq⟩

/-! ## The ports of a state -/

theorem TargetPortsFit.of_tports (h : TargetPortsFit s) (ht : t.tports = s.tports) : TargetPortsFit t := fun p => by
  rw [State.tport, ht]; exact h p

/-- The record put in place of one port fits, and the others stay. -/
theorem TargetPortsFit.put (h : TargetPortsFit s) {i : Fin 4} (hp : p.fits) (ht : t.tports = upd s.tports i p) :
    TargetPortsFit t := fun j => by
  rw [State.tport, ht, look_upd]
  split
  · exact hp
  · exact h j

theorem TargetPortsFit.modTPort (h : TargetPortsFit s) {i : Fin 4} {f : TPort → TPort} (hf : (f (s.tport i)).fits) :
    TargetPortsFit (s.modTPort i f) := h.put hf rfl

theorem targetPortsFit_enterOffline (h : TargetPortsFit s) (i : Fin 4) : TargetPortsFit (enterOffline i s) :=
  h.put (offline_fits (h i)) (enterOffline_tports i)

theorem targetPortsFit_expireTimer (h : TargetPortsFit s) (i : Fin 4) : TargetPortsFit (expireTimer i s) := by
  unfold expireTimer
  split
  · exact targetPortsFit_enterOffline h i
  · exact h

theorem targetPortsFit_targetAnswers (h : TargetPortsFit s) (i : Fin 4) (num : BitVec 4) (code : TargetCode)
    (data : List Byte) : TargetPortsFit (targetAnswers i num code data s) := by
  unfold targetAnswers
  split
  · exact h
  · next hst =>
    split
    · exact targetPortsFit_enterOffline h i
    · next r rest hq =>
      dsimp only
      split
      · have hpop := pop_fits (h i) hst hq (timeoutOf_le s.mgmt.tgtTimeout i)
        cases code
        · exact h.put hpop (surround_ownerResult _ _ _).1
        · exact h.put hpop (surround_ownerResult _ _ _).1
      · exact targetPortsFit_enterOffline h i

theorem lastGranted_fits (h : p.fits) (r : Requester) : TPort.fits { p with lastGranted := r } := h

theorem targetPortsFit_grant (h : TargetPortsFit s) (i : Fin 4) : TargetPortsFit (grant i s) := by
  unfold grant
  split
  · exact h
  · next hroom =>
    split
    · exact h
    · next r _ =>
      have h1 : TargetPortsFit (s.modTPort i fun p => { p with lastGranted := r }) := h.modTPort (lastGranted_fits (h i) r)
      have hports := (surround_handOver (s := s.modTPort i fun p => { p with lastGranted := r }) i r).1
      split
      · next u b o he =>
        rw [he] at hports
        have hu := h1.of_tports hports
        have hti : u.tport i = { s.tport i with lastGranted := r } := by
          rw [State.tport, hports]; exact State.modTPort_tport_self ..
        unfold takeGrant
        split
        · next hst =>
          refine hu.modTPort (push_fits (hu i) hst ?_ (timeoutOf_le _ _) b o)
          rw [hti] at hst ⊢
          have hst : (s.tport i).state = .online := hst
          simpa [TPort.canTake, hst] using hroom
        · exact hu.of_tports (surround_ownerResult (s := raise (.target i) u) _ _ _).1
      · next u he => rw [he] at hports; exact h1.of_tports hports

theorem targetPortsFit_endRestore (h : TargetPortsFit s) (i : Fin 4) : TargetPortsFit (endRestore i s) := by
  unfold endRestore
  split
  · exact h.put restored_fits (endCommand_tports _ _)
  · exact h

theorem targetPortsFit_writeTimeouts (h : TargetPortsFit s) (v : Word) : TargetPortsFit (writeTimeouts v s) := fun i => by
  have ht : (writeTimeouts v s).tport i = if timeoutOf v i = timeoutOf s.mgmt.tgtTimeout i then s.tport i
      else if (s.tport i).timer.isSome = true ∨ ((s.tport i).state = .online ∧ (s.tport i).queue ≠ []) then
        { s.tport i with timer := loadTimer (timeoutOf v i) }
      else { s.tport i with timer := none } := look_tabulate ..
  rw [ht]
  split
  · exact h i
  · split
    · next hc => exact reload_fits (h i) (timeoutOf_le v i) hc
    · exact stopped_fits (h i)

theorem targetPortsFit_countAll (h : TargetPortsFit s) : TargetPortsFit (countAll s) := fun i => by
  rw [show (countAll s).tport i = _ from look_vmap ..]
  exact counted_fits (h i)

end Sys2Proof.Machine
end

section
/-! SUPPORT. The Target Ports: a granted request, a response and the entry into OFFLINE leave every request with its owner
(R86, R89, R96, R97). -/

namespace Sys2Proof.Machine

variable {s t u : State} {p : Fin 4} {owed owed' : List Owner}

/-! ## Requests that leave and join a queue -/

/-- Requests go between the queue of port `p` and those still to come, and the engine's with them. -/
theorem OwnersOwe.requeue (h : OwnersOwe p owed s) (hports : t.ports = s.ports)
    (hne : ∀ t', t' ≠ p → (t.tport t').owners = (s.tport t').owners)
    (hleg : ∀ i k r, ((t.tport p).owners ++ owed').count (.leg i k r) = ((s.tport p).owners ++ owed).count (.leg i k r))
    (hmeng : ((t.tport p).owners ++ owed').count .meng + s.eng.outstanding =
      ((s.tport p).owners ++ owed).count .meng + t.eng.outstanding) : OwnersOwe p owed' t := by
  simp only [List.count_append] at hleg hmeng
  refine ⟨fun t' i k r => ?_, ?_⟩
  · have hs := h.1 t' i k r
    rw [show t.slot i k = s.slot i k by rw [State.slot, port_of_ports hports]; rfl]
    by_cases ht : t' = p
    · subst ht
      have := hleg i k r
      simp only [if_true] at hs ⊢
      omega
    · rw [if_neg ht] at hs ⊢
      rw [hne t' ht]; exact hs
  · have hsum (v : State) : (four.map fun t' => (v.tport t').owners.count .meng).sum =
        (v.tport p).owners.count .meng + ((four.erase p).map fun t' => (v.tport t').owners.count .meng).sum := by
      rw [((List.perm_cons_erase (mem_four p)).map _).sum_eq, List.map_cons, List.sum_cons]
    have hrest : (four.erase p).map (fun t' => (t.tport t').owners.count .meng) =
        (four.erase p).map fun t' => (s.tport t').owners.count .meng :=
      List.map_congr_left fun t' ht => by rw [hne t' ((List.Nodup.mem_erase_iff (List.nodup_finRange 4)).1 ht).1]
    have hs := h.2
    rw [hsum] at hs ⊢
    rw [hrest]
    omega

/-- Nothing is to come, whatever the port. -/
theorem Underway.anyPort (h : Underway p [] s) (q : Fin 4) : Underway q [] s :=
  ⟨h.ports, (ownersOwe_nil q).2 ((ownersOwe_nil p).1 h.owners), h.counts, h.map⟩

/-- A change of the Target Ports' records alone, with requests going between a queue and those to come. -/
theorem Underway.retarget (h : Underway p owed s) (hports : t.ports = s.ports) (hm : t.map = s.map) (he : t.eng = s.eng)
    (hne : ∀ t', t' ≠ p → (t.tport t').owners = (s.tport t').owners)
    (hq : (t.tport p).owners ++ owed' = (s.tport p).owners ++ owed ∨
      ∃ o rest, (s.tport p).owners = o :: rest ∧ (t.tport p).owners = rest ∧ owed' = o :: owed) :
    Underway p owed' t := by
  have hcount (o : Owner) : ((t.tport p).owners ++ owed').count o = ((s.tport p).owners ++ owed).count o := by
    rcases hq with hq | ⟨o', rest, hs, ht, rfl⟩
    · rw [hq]
    · rw [hs, ht]; simp only [List.count_append, List.count_cons]; omega
  refine ⟨h.ports.of_ports hports, h.owners.requeue hports hne (fun i k r => hcount _) ?_,
    h.counts.congr hm fun i k => by rw [State.slot, port_of_ports hports]; rfl, (MapKept.of_same hm he).fits h.map⟩
  rw [hcount, he]

/-! ## Results -/

/-- The engine takes a result of its copy request (R125 to R127). -/
theorem underway_copyResult (h : Underway p (.meng :: owed) s) (code : TargetCode) (data : List Byte) :
    Underway p owed (copyResult code data s) := by
  have hmoved := unmoved_copyResult h.map code data
  have howners : OwnersOwe p owed (s.modEng Engine.answered) := by
    refine h.owners.requeue rfl (fun _ _ => rfl) (fun i k r => ?_) ?_
    · simp
    · have := h.owners.2
      simp only [List.count_cons_self] at this
      simp only [State.modEng_tport, State.modEng_eng, Engine.answered, List.count_append, List.count_cons_self]
      omega
  exact ⟨hmoved.portsFit (h.ports.of_ports rfl), hmoved.ownersOwe howners, hmoved.counts [] h.counts,
    (kept_copyResult code data).fits h.map⟩

/-- A result reaches its owner (R86, R96). -/
theorem underway_ownerResult {o : Owner} (h : Underway p (o :: owed) s) (code : TargetCode) (data : List Byte) :
    Underway p owed (ownerResult o code data s) := by
  cases o with
  | leg i k r => exact underway_legResult h code data
  | meng => exact underway_copyResult h code data

/-- Every request of a list is failed to its owner (R96). -/
theorem underway_failOwners (l : List TReq) (h : Underway p (l.map TReq.owner) s) :
    Underway p [] (l.foldl (fun s r => ownerResult r.owner .error [] s) s) := by
  induction l generalizing s with
  | nil => exact h
  | cons r l ih => exact ih (underway_ownerResult h .error [])

theorem underway_raise (h : Underway p owed s) (c : EventClass) : Underway p owed (raise c s) :=
  (unmoved_raise c).underway (.of_same rfl rfl) h

/-- A port enters OFFLINE: its requests have left the queue, and each is failed (R96). -/
theorem underway_enterOffline (h : Underway p [] s) : Underway p [] (enterOffline p s) := by
  refine underway_failOwners _ (underway_raise (underway_raise ?_ _) _)
  refine h.retarget rfl rfl rfl (fun t' ht => by rw [State.modTPort_tport_ne _ _ ht]) (.inl ?_)
  rw [State.modTPort_tport_self]
  simp [TPort.owners]

theorem underway_expireTimer (h : Underway p [] s) : Underway p [] (expireTimer p s) := by
  unfold expireTimer
  split
  · exact underway_enterOffline h
  · exact h

/-- A target answers: the oldest request's result goes to its owner, or the port enters OFFLINE (R86, R95, R97). -/
theorem underway_targetAnswers (h : Underway p [] s) (num : BitVec 4) (code : TargetCode) (data : List Byte) :
    Underway p [] (targetAnswers p num code data s) := by
  unfold targetAnswers
  split
  · exact h
  · split
    · exact underway_enterOffline h
    · next r rest hq =>
      dsimp only
      split
      · have hpop : Underway p [r.owner] (s.modTPort p fun x => { x with
            queue := rest
            timer := if rest.isEmpty then none else loadTimer (timeoutOf s.mgmt.tgtTimeout p) }) := by
          refine h.retarget rfl rfl rfl (fun t' ht => by rw [State.modTPort_tport_ne _ _ ht])
            (.inr ⟨r.owner, rest.map TReq.owner, ?_, ?_, rfl⟩)
          · rw [TPort.owners, hq]; rfl
          · rw [State.modTPort_tport_self]; rfl
        cases code
        · exact underway_ownerResult hpop .ok data
        · exact underway_ownerResult (underway_raise hpop _) .error data
      · exact underway_enterOffline h

/-! ## Grants -/

/-- The engine's request is granted: it is outstanding (R89, R125, R126). -/
theorem underway_mengGranted (h : Underway p [] s) {b : ReqBody} (hb : mengRequest s p = some b) :
    Underway p [.meng] (mengGranted s) := by
  obtain ⟨ho, hstep⟩ := mengRequest_some hb
  refine ⟨h.ports.of_ports rfl, h.owners.requeue rfl (fun _ _ => rfl) (fun i k r => ?_) ?_, h.counts,
    (kept_mengGranted ho hstep).fits h.map⟩
  · show ((s.tport p).owners ++ [Owner.meng]).count _ = ((s.tport p).owners ++ []).count _
    simp
  · show ((s.tport p).owners ++ [Owner.meng]).count Owner.meng + s.eng.outstanding =
      ((s.tport p).owners ++ []).count Owner.meng + (s.eng.outstanding + 1)
    simp; omega

/-- The head of a leg queue is an UNGRANTED leg of a WAITING slot (R73). -/
theorem queueHead {i : Fin 4} (h : (s.port i).fits) {ref : LegRef} {rest : List LegRef}
    (hq : look (s.port i).legQueues p = ref :: rest) :
    (s.slot i ref.slot).state = .waiting ∧
      ∃ l ∈ (s.slot i ref.slot).legs, l.role = ref.role ∧ l.target = p ∧ l.status = .ungranted := by
  obtain ⟨hqueues, _⟩ := listsFit_iff.1 h.1.1
  exact ((hqueues p).2 ref).1 (by rw [hq]; exact List.mem_cons_self ..)

/-- The slot of a granted leg: WAITING while another leg is UNGRANTED, else ISSUED (R72). -/
theorem grantLeg_state (sl : Slot) (r : LegRole) (hs : sl.state = .waiting) :
    (∃ l ∈ (sl.grantLeg r).legs, l.status = .ungranted) ∧ (sl.grantLeg r).state = .waiting ∨
      (∀ l ∈ (sl.grantLeg r).legs, l.status ≠ .ungranted) ∧ (sl.grantLeg r).state = .issued := by
  by_cases hu : (setLegStatus r .granted sl.legs).any (fun l => decide (l.status = .ungranted)) = true
  · exact .inl ⟨by simpa [Slot.grantLeg] using List.any_eq_true.1 hu, by simp only [Slot.grantLeg, if_pos hu, hs]⟩
  · exact .inr ⟨by simpa [Slot.grantLeg] using hu, by simp only [Slot.grantLeg, if_neg hu]⟩

section
variable {sl : Slot} {l : Leg}

theorem grantLeg_fits (h : sl.fits) (hs : sl.state = .waiting) (hl : l ∈ sl.legs) : (sl.grantLeg l.role).fits := by
  have hst := h.2
  rw [hs] at hst
  obtain ⟨hc, hr, _⟩ := hst
  refine Slot.awaitsLegs.fits ⟨(setLegStatus_roles ..).symm ▸ h.1, hc, hr, ?_⟩
    ⟨{ l with status := .granted }, mem_setLegStatus.2 (.inl ⟨l, hl, rfl, rfl⟩), .inr rfl⟩
  rcases grantLeg_state sl l.role hs with ⟨hu, hw⟩ | ⟨hno, hi⟩
  · exact .inl ⟨hw, hu⟩
  · exact .inr ⟨.inl hi, hno⟩

/-- A granted leg waits in no leg queue; the others wait as before (R73). -/
theorem grantLeg_queuesAt (hs : sl.state = .waiting) (granted r : LegRole) (t : Fin 4) :
    (sl.grantLeg granted).queuesAt r t ↔ r ≠ granted ∧ sl.queuesAt r t := by
  have hmem (m : Leg) (hu : m.status = .ungranted) :
      m ∈ (sl.grantLeg granted).legs ↔ m ∈ sl.legs ∧ m.role ≠ granted := by
    refine mem_setLegStatus.trans (or_iff_right ?_)
    rintro ⟨m', _, _, rfl⟩
    cases hu
  constructor
  · rintro ⟨_, m, hm, hr, ht, hu⟩
    obtain ⟨hm', hne⟩ := (hmem m hu).1 hm
    exact ⟨hr ▸ hne, hs, m, hm', hr, ht, hu⟩
  · rintro ⟨hne, _, m, hm, hr, ht, hu⟩
    have hm' := (hmem m hu).2 ⟨hm, hr ▸ hne⟩
    rcases grantLeg_state sl granted hs with ⟨_, hw⟩ | ⟨hno, _⟩
    · exact ⟨hw, m, hm', hr, ht, hu⟩
    · exact absurd hu (hno m hm')

end

/-- The port whose head leg is granted: the leg has left its queue (R89 step 2). -/
def IPort.granting (t : Fin 4) (ref : LegRef) (rest : List LegRef) (q : IPort) : IPort :=
  { q with
    legQueues := upd q.legQueues t rest, slots := upd q.slots ref.slot ((look q.slots ref.slot).grantLeg ref.role) }

theorem granting_fits {q : IPort} (h : q.fits) {t : Fin 4} {ref : LegRef} {rest : List LegRef}
    (hq : look q.legQueues t = ref :: rest) : (q.granting t ref rest).fits := by
  obtain ⟨⟨hlists, hstate⟩, hslots⟩ := h
  obtain ⟨hqueues, ha, hr⟩ := listsFit_iff.1 hlists
  obtain ⟨hs, l, hl, hrole, ht, hu⟩ : (look q.slots ref.slot).queuesAt ref.role t :=
    ((hqueues t).2 ref).1 (by rw [hq]; exact List.mem_cons_self ..)
  have hfits : ((look q.slots ref.slot).grantLeg ref.role).fits := hrole ▸ grantLeg_fits (hslots _) hs hl
  have hstates : ((look q.slots ref.slot).grantLeg ref.role).state = .waiting ∨
      ((look q.slots ref.slot).grantLeg ref.role).state = .issued :=
    (grantLeg_state _ ref.role hs).imp And.right And.right
  have hresp : ((look q.slots ref.slot).grantLeg ref.role).response = none := by
    have := (hslots ref.slot).2
    rw [hs] at this
    exact this.2.1
  refine ⟨⟨listsFit_iff.2 ⟨fun t' => ?_, answersFit_upd ha rfl rfl rfl ?_, resQueueFit_upd hr rfl rfl ?_⟩, ?_⟩,
    slotsFit_upd (fun j _ => hslots j) hfits⟩
  · have hqueue : look (q.granting t ref rest).legQueues t' = if t' = t then rest else look q.legQueues t' :=
      look_upd ..
    obtain ⟨hnodup, hmem⟩ := hqueues t'
    have hquiet (r : LegRef) : (look (q.granting t ref rest).slots r.slot).queuesAt r.role t' ↔
        r ≠ ref ∧ (look q.slots r.slot).queuesAt r.role t' := by
      refine forall_upd (P := fun j sl => r.slot = j →
        (sl.queuesAt r.role t' ↔ r ≠ ref ∧ (look q.slots j).queuesAt r.role t')) (fun he => ?_)
        (fun j hj he => ?_) r.slot rfl
      · rw [grantLeg_queuesAt hs]
        refine and_congr_left fun _ => not_congr ⟨fun hr => ?_, fun hr => by rw [hr]⟩
        cases r; cases ref; simp_all
      · exact (and_iff_right fun hr => hj (by rw [← he, hr])).symm
    rw [hqueue]
    split
    · next he =>
      subst he
      rw [hq] at hnodup hmem
      obtain ⟨hnot, hnodup'⟩ := List.nodup_cons.1 hnodup
      refine ⟨hnodup', fun r => ?_⟩
      rw [hquiet, ← hmem, List.mem_cons]
      constructor
      · exact fun h => ⟨fun he => hnot (he ▸ h), .inr h⟩
      · exact fun ⟨hne, h⟩ => h.resolve_left hne
    · next hne =>
      refine ⟨hnodup, fun r => ?_⟩
      rw [hquiet, hmem]
      refine (and_iff_right_of_imp fun h he => hne ?_).symm
      subst he
      obtain ⟨_, m, hm, hmr, hmt, _⟩ := h
      rw [← hmt, ← ht, List.inj_on_of_nodup_map (hslots _).1 hm hl (hmr.trans hrole.symm)]
  · exact iff_of_false (by simp [Slot.answered, hresp]) (by simp [Slot.answered, hs])
  · exact iff_of_false (by rcases hstates with h | h <;> simp [Slot.awaitsResolution, h]) (by simp [Slot.awaitsResolution, hs])
  · have hact := hstate.active_of_inUse (k := ref.slot) (by rw [hs]; nofun) (by rw [hs]; nofun)
    exact stateFits_upd hstate hact rfl rfl rfl (by rcases hstates with h | h <;> rw [h] <;> nofun)

/-- The head leg of a leg queue is granted: its owner is a leg that is GRANTED (R89). -/
theorem underway_granting (h : Underway p [] s) {i : Fin 4} {ref : LegRef} {rest : List LegRef}
    (hq : look (s.port i).legQueues p = ref :: rest) :
    Underway p [.leg i ref.slot ref.role] (s.modPort i (IPort.granting p ref rest)) := by
  obtain ⟨hs, l, hl, hrole, ht, hu⟩ := queueHead (h.ports.port i) hq
  have hslot := modPort_slot (s := s) (f := IPort.granting p ref rest) (x := (s.slot i ref.slot).grantLeg ref.role)
    (i := i) (k := ref.slot) rfl
  refine ⟨h.ports.modPort (granting_fits (h.ports.port i) hq), ?_, h.counts.congr rfl fun j n => ?_,
    (MapKept.of_same rfl rfl).fits h.map⟩
  · refine h.owners.slot (i := i) (k := ref.slot) (fun _ => rfl) rfl (fun j n hjn r t' => ?_) (fun o ho => ?_)
      fun r t' => ?_
    · rw [hslot, if_neg hjn]
    · exact List.count_singleton.trans (if_neg fun e => ho _ (by simpa using (eq_comm.1 (beq_iff_eq.1 e))))
    · have hroles : ((s.slot i ref.slot).legs.map Leg.role).Nodup := ((h.ports.port i).2 ref.slot).1
      rw [hslot, if_pos ⟨rfl, rfl⟩, granted_setLegStatus hroles hl .granted (by rw [Slot.grantLeg, hrole])]
      split
      · next hr =>
        have hzero : (s.slot i ref.slot).granted r t' = 0 := by
          rw [hr, granted_eq hroles hl, if_neg (by simp [hu])]
        rw [hzero, hr, hrole, ht]
        by_cases hp : t' = p
        · simp [hp]
        · simp [hp, Ne.symm hp]
      · next hr =>
        have hne : ref.role ≠ r := fun e => hr (e.symm.trans hrole.symm)
        simp [hne]
  · rw [hslot]
    split
    · next e => rw [e.1, e.2]; rfl
    · rfl

/-- What a requester hands over goes to its owner (R89 steps 2 and 4). -/
theorem underway_handOver (h : Underway p [] s) (r : Requester) :
    Underway p ((handOver p r s).2.map Prod.snd).toList (handOver p r s).1 := by
  cases r with
  | meng =>
    unfold handOver
    dsimp only
    split
    · next b hb => exact underway_mengGranted h hb
    · exact h
  | ip i =>
    unfold handOver
    dsimp only
    split
    · exact h
    · next ref rest hq =>
      obtain ⟨_, l, hl, hrole, _⟩ := queueHead (h.ports.port i) hq
      obtain ⟨m, hm⟩ : ∃ m, (s.slot i ref.slot).legs.find? (fun l => decide (l.role = ref.role)) = some m :=
        Option.isSome_iff_exists.1 (List.find?_isSome.2 ⟨l, hl, by simpa using hrole⟩)
      rw [hm]
      exact underway_granting h hq

/-- A granted request joins the queue of an ONLINE port, or is failed by an OFFLINE one (R89, R97). -/
theorem underway_takeGrant {o : Owner} (h : Underway p [o] s) (b : ReqBody) : Underway p [] (takeGrant p b o s) := by
  unfold takeGrant
  split
  · refine h.retarget rfl rfl rfl (fun t' ht => by rw [State.modTPort_tport_ne _ _ ht]) (.inl ?_)
    rw [State.modTPort_tport_self]
    simp [TPort.owners, TPort.push]
  · exact underway_ownerResult (underway_raise h _) .error []

theorem underway_grant (h : Underway p [] s) : Underway p [] (grant p s) := by
  unfold grant
  split
  · exact h
  · split
    · exact h
    · next r _ =>
      have hmark : Underway p [] (s.modTPort p fun x => { x with lastGranted := r }) := by
        refine h.retarget rfl rfl rfl (fun t' ht => by rw [State.modTPort_tport_ne _ _ ht]) (.inl ?_)
        rw [State.modTPort_tport_self]; rfl
      have hand := underway_handOver hmark r
      split
      · next he => rw [he] at hand; exact underway_takeGrant hand _
      · next he => rw [he] at hand; exact hand

end Sys2Proof.Machine
end

section
/-! SUPPORT. The Initiator Ports: acceptance, resolution, responses and port reset keep the laws of the slots (R67 to R81). -/

namespace Sys2Proof.Machine

variable {s t u : State} {p : Fin 4} {owed : List Owner} {i : Fin 4} {k : Fin 8}

/-! ## A slot put in place -/

/-- One slot takes another record, with the same GRANTED legs and counted alike. -/
theorem underway_put (h : Underway p owed s) {f : IPort → IPort} {x : Slot}
    (hslots : (f (s.port i)).slots = upd (s.port i).slots k x) (hf : (f (s.port i)).fits)
    (hg : ∀ r t', x.granted r t' = (s.slot i k).granted r t') (hc : x.counted = (s.slot i k).counted) :
    Underway p owed (s.modPort i f) := by
  refine ⟨h.ports.modPort hf, h.owners.of_alike (fun _ => rfl) (fun j n r t' => ?_) rfl,
    h.counts.congr rfl fun j n => ?_, (MapKept.of_same rfl rfl).fits h.map⟩
  · rw [modPort_slot hslots]
    split
    · next e => rw [e.1, e.2]; exact hg r t'
    · rfl
  · rw [modPort_slot hslots]
    split
    · next e => rw [e.1, e.2]; exact hc
    · rfl

/-- A port changes, but for its slots. -/
theorem underway_frame (h : Underway p owed s) {f : IPort → IPort} (hslots : (f (s.port i)).slots = (s.port i).slots)
    (hf : (f (s.port i)).fits) : Underway p owed (s.modPort i f) :=
  underway_put h (k := 0) (x := s.slot i 0) (hslots.trans (upd_look ..).symm) hf (fun _ _ => rfl) rfl

theorem underway_notify (h : Underway p owed s) (d : DescIdx) (dir : Dir) : Underway p owed (notify d dir s) :=
  Unmoved.underway (s := s) (unmoved_frame rfl rfl rfl rfl) (.of_same rfl rfl) h

/-! ## Resolution -/

/-- A slot about to be resolved: HELD and not released, so that no list names it (R70, R77). -/
structure Resolving (s : State) (i : Fin 4) (k : Fin 8) : Prop where
  held     : (s.slot i k).state = .held
  released : (s.slot i k).released = false

theorem Slot.fits.held {sl : Slot} (h : sl.fits) (hs : sl.state = .held) :
    sl.counted = none ∧ sl.legs = [] ∧ sl.response = none := by
  have := h.2
  rwa [hs] at this

theorem fits_of_held {sl : Slot} (hs : sl.state = .held) (hc : sl.counted = none) (hl : sl.legs = [])
    (hr : sl.response = none) : sl.fits := by
  refine ⟨by rw [hl]; exact List.nodup_nil, ?_⟩
  rw [hs]
  exact ⟨hc, hl, hr⟩

/-- The slot is HELD anew (R70). -/
theorem underway_takeHold (h : Underway p owed s) (hk : Resolving s i k) (hold : Hold) :
    Underway p owed (takeHold i k hold s) := by
  obtain ⟨⟨hlists, hstate⟩, hslots⟩ := h.ports.port i
  obtain ⟨hc, hl, hr⟩ := (hslots k).held hk.held
  unfold takeHold State.modSlot
  refine underway_put h (k := k) (x := { s.slot i k with state := .held, hold := some hold, released := false }) rfl
    ⟨⟨?_, ?_⟩, slotsFit_upd (fun n _ => hslots n) ?_⟩ (fun _ _ => rfl) rfl
  · exact listsFit_unlisted hlists (unlisted_of_held hk.held hk.released) (unlisted_of_held rfl rfl)
  · exact hstate.congr rfl rfl rfl (forall_upd (P := fun n sl => sl.state = (look (s.port i).slots n).state)
      hk.held.symm fun _ _ => rfl)
  · exact fits_of_held rfl hc hl hr

/-- The slot is answered without legs (R70). -/
theorem underway_takeAnswer (h : Underway p owed s) (hk : Resolving s i k) (code : RespCode) :
    Underway p owed (takeAnswer i k code s) := by
  obtain ⟨⟨hlists, hstate⟩, hslots⟩ := h.ports.port i
  obtain ⟨_, hl, _⟩ := (hslots k).held hk.held
  have hact := hstate.active_of_inUse (k := k) (fun e => nomatch hk.held.symm.trans e)
    fun e => nomatch hk.held.symm.trans e
  rw [takeAnswer_eq]
  refine underway_put h (k := k)
    (x := { s.slot i k with state := .issued, hold := none, released := false, response := some code }) rfl
    ⟨⟨?_, ?_⟩, slotsFit_upd (fun n _ => hslots n) ⟨(hslots k).1, ?_⟩⟩ (fun _ _ => rfl) rfl
  · exact listsFit_answer hlists (unlisted_of_held hk.held hk.released) ⟨rfl, rfl⟩
  · exact stateFits_upd hstate hact rfl rfl rfl nofun
  · have hl : (s.slot i k).legs = [] := hl
    simp [hl]

/-- The legs that a resolution forms are UNGRANTED, at least one, and of different roles (R35, R37). -/
theorem resolveOn_legs {d : DescIdx} {dir : Dir} {a : Addr} {ls : List Leg}
    (h : resolveOn s d i dir a = .legs ls) :
    ls ≠ [] ∧ (∀ l ∈ ls, l.status = .ungranted) ∧ (ls.map Leg.role).Nodup := by
  cases dir with
  | read =>
    obtain ⟨w, _, rfl⟩ := legs_of_read h
    simp
  | write =>
    obtain ⟨w, _, rfl⟩ := legs_of_write h
    rcases destinationLeg_cases s (s.desc d) w a with ⟨j, _, hd⟩ | ⟨_, hd⟩ <;>
      cases hm : (s.desc d).mirror <;> simp [writeLegs, hd, hm]

/-- The slot that waits with its legs, counted (R48, R70). -/
def Slot.counting (c : Counted) (ls : List Leg) (sl : Slot) : Slot :=
  { sl with state := .waiting, hold := none, released := false, legs := ls, counted := some c }

/-- What the slot is counted on (R48). -/
def State.countedOn (s : State) (i : Fin 4) (k : Fin 8) (d : DescIdx) : Counted :=
  ⟨d, (s.desc d).gen, (s.desc d).lineOf (s.slot i k).addr⟩

/-- The port when the legs of a slot have joined their queues (R73). -/
def IPort.counting (k : Fin 8) (x : Slot) (ls : List Leg) (q : IPort) : IPort :=
  { q with slots := upd q.slots k x, legQueues := queueLegs k ls q.legQueues }

theorem takeLegs_counting (i : Fin 4) (k : Fin 8) (d : DescIdx) (ls : List Leg) (s : State) : takeLegs i k d ls s =
    notify d (s.slot i k).dir ((s.modPort i (IPort.counting k ((s.slot i k).counting (s.countedOn i k d) ls) ls)).modDesc d
      fun x => { x with cur := x.cur + 1 }) := rfl

/-- The slot is WAITING with its legs, and counted (R48, R70, R73). -/
theorem underway_takeLegs (h : Underway p owed s) (hk : Resolving s i k) {d : DescIdx} {ls : List Leg} (hne : ls ≠ [])
    (hu : ∀ l ∈ ls, l.status = .ungranted) (hroles : (ls.map Leg.role).Nodup)
    (hd : d = floorIdx ∨ (s.desc d).inUse = true) (hstill : (s.desc d).switching = false) :
    Underway p owed (takeLegs i k d ls s) := by
  obtain ⟨⟨hlists, hstate⟩, hslots⟩ := h.ports.port i
  have hheld : (s.slot i k).fits := hslots k
  obtain ⟨hc, hl, hr⟩ := hheld.held hk.held
  have hact := hstate.active_of_inUse (k := k) (fun e => nomatch hk.held.symm.trans e)
    fun e => nomatch hk.held.symm.trans e
  rw [takeLegs_counting]
  generalize hx : (s.slot i k).counting (s.countedOn i k d) ls = x
  have hslot := modPort_slot (s := s) (f := IPort.counting k x ls) (i := i) (k := k) (x := x) rfl
  refine underway_notify ⟨?_, ?_, ?_, ?_⟩ d _
  · refine PortsFit.of_ports (h.ports.modPort (i := i) (f := IPort.counting k x ls)
      ⟨⟨?_, ?_⟩, slotsFit_upd (fun n _ => hslots n) ?_⟩) rfl <;> subst hx
    · exact listsFit_queueLegs hlists (unlisted_of_held hk.held hk.released) rfl hroles hu
    · exact stateFits_upd hstate hact rfl rfl rfl nofun
    · obtain ⟨l, hmem⟩ := List.exists_mem_of_ne_nil ls hne
      exact Slot.awaitsLegs.fits ⟨hroles, rfl, hr, .inl ⟨rfl, l, hmem, hu l hmem⟩⟩ ⟨l, hmem, .inl (hu l hmem)⟩
  · refine h.owners.of_alike (fun _ => rfl) (fun j n r t' => ?_) rfl
    rw [State.modDesc_slot, hslot]
    split
    · next e =>
      rw [e.1, e.2, Slot.granted, Slot.granted, hl, ← hx]
      exact List.countP_eq_zero.2 fun l hmem => by simp [hu l hmem]
    · rfl
  · refine h.counts.increment (d := d) (n := (s.desc d).lineOf (s.slot i k).addr) rfl fun q hq => ?_
    have hcount := counteds_of_slot (s := s) (t := s.modPort i (IPort.counting k x ls)) (i := i) (k := k) (q := q)
      (owed' := []) (owed := [some (s.countedOn i k d)]) (fun j hj => State.modPort_port_ne _ _ hj)
      (fun n hn => (hslot i n).trans (if_neg fun e => hn e.2)) ?_
    · rw [List.append_nil, List.countP_append] at hcount
      refine hcount.trans ?_
      show _ = List.countP q (some (s.countedOn i k d) :: s.counteds)
      simp only [List.countP_cons, List.countP_nil, Nat.zero_add]
    · rw [hslot, if_pos ⟨rfl, rfl⟩, ← hx, hc]
      simp [Slot.counting, List.countP_cons, hq]
  · exact (MapKept.trans (t := s.modPort i _) (.of_same rfl rfl) (kept_counted hd hstill)).fits h.map

theorem underway_resolveSlot (h : Underway p owed s) (hk : Resolving s i k) : Underway p owed (resolveSlot i k s) := by
  unfold resolveSlot
  dsimp only
  split
  · exact underway_takeHold h hk _
  · exact underway_takeHold h hk _
  · exact underway_raise (underway_takeAnswer h hk _) _
  · exact underway_raise (underway_takeAnswer h hk _) _
  · exact underway_raise (underway_takeAnswer h hk _) _
  · exact underway_notify (underway_takeAnswer h hk _) _ _
  · next hls =>
    obtain ⟨hne, hu, hroles⟩ := resolveOn_legs hls
    exact underway_takeLegs h hk hne hu hroles (winner_inUse s _) (resolveOn_legs_still hls)

/-! ## Re-resolution -/

/-- The slot without its mark of a release (R77). -/
def Slot.unmarked (sl : Slot) : Slot := { sl with released := false }

/-- A resolution does not look at the mark of a release, and clears it (R70). -/
theorem resolveSlot_unmarked (i : Fin 4) (k : Fin 8) (s : State) :
    resolveSlot i k (s.modSlot i k Slot.unmarked) = resolveSlot i k s := by
  have hfield : (s.modSlot i k Slot.unmarked).slot i k = (s.slot i k).unmarked := State.modSlot_slot_self ..
  have hmod (f : Slot → Slot) (hf : ∀ sl, f sl.unmarked = f sl) :
      (s.modSlot i k Slot.unmarked).modSlot i k f = s.modSlot i k f := by
    simp only [State.modSlot, modPort_modPort]
    simp [State.modPort, hf]
  have hhold (hold : Hold) : takeHold i k hold (s.modSlot i k Slot.unmarked) = takeHold i k hold s :=
    hmod _ fun _ => rfl
  have hanswer (code : RespCode) : takeAnswer i k code (s.modSlot i k Slot.unmarked) = takeAnswer i k code s :=
    congrArg (formResponse i k code) (hmod _ fun _ => rfl)
  have hlegs (d : DescIdx) (ls : List Leg) : takeLegs i k d ls (s.modSlot i k Slot.unmarked) = takeLegs i k d ls s := by
    have hport (x : Slot) : (s.modSlot i k Slot.unmarked).modPort i (IPort.counting k x ls) =
        s.modPort i (IPort.counting k x ls) := by
      rw [State.modSlot, modPort_modPort]
      simp only [Function.comp_def, IPort.counting, upd_upd]
      rfl
    rw [takeLegs_counting, takeLegs_counting, hport, State.countedOn, hfield]
    rfl
  unfold resolveSlot
  simp only [hfield, hhold, hanswer, hlegs]
  rfl

/-- The head of the resolution queue is resolved anew (R77). -/
theorem underway_reResolve (h : Underway p owed s) (i : Fin 4) : Underway p owed (reResolve i s) := by
  unfold reResolve
  split
  · exact h
  · next k rest hq =>
    obtain ⟨⟨hlists, hstate⟩, hslots⟩ := h.ports.port i
    obtain ⟨hqueues, ha, hnodup, hres⟩ := listsFit_iff.1 hlists
    rw [hq] at hnodup hres
    obtain ⟨hnot, hnodup'⟩ := List.nodup_cons.1 hnodup
    obtain ⟨hheld, _⟩ := (hres k).1 (List.mem_cons_self ..)
    rw [← resolveSlot_unmarked]
    have heq : (s.modPort i fun q => { q with resQueue := rest }).modSlot i k Slot.unmarked =
        s.modPort i fun q => { q with resQueue := rest, slots := upd q.slots k (look q.slots k).unmarked } := by
      rw [State.modSlot, modPort_modPort]; rfl
    rw [heq]
    refine underway_resolveSlot (underway_put h (k := k) (x := (s.slot i k).unmarked) rfl
      ⟨⟨listsFit_iff.2 ⟨?_, ?_, hnodup', fun n => ?_⟩, ?_⟩, slotsFit_upd (fun n _ => hslots n) ?_⟩
      (fun _ _ => rfl) rfl) ⟨?_, ?_⟩
    · exact queuesFit_upd hqueues rfl rfl fun _ _ => .rfl
    · exact answersFit_upd ha rfl rfl rfl .rfl
    · refine forall_upd (P := fun n sl => n ∈ rest ↔ sl.awaitsResolution) ?_ (fun n hn => ?_) n
      · exact iff_of_false hnot (by simp [Slot.awaitsResolution, Slot.unmarked])
      · rw [← hres]; simp [hn]
    · exact hstate.congr rfl rfl rfl (forall_upd (P := fun n sl => sl.state = (look (s.port i).slots n).state) rfl
        fun _ _ => rfl)
    · obtain ⟨hc, hl, hr⟩ := (hslots k).held hheld
      exact fits_of_held hheld hc hl hr
    · rw [modPort_slot (x := (s.slot i k).unmarked) rfl, if_pos ⟨rfl, rfl⟩]; exact hheld
    · rw [modPort_slot (x := (s.slot i k).unmarked) rfl, if_pos ⟨rfl, rfl⟩]; rfl

/-! ## Acceptance -/

theorem ready_iff {q : IPort} : q.ready = true ↔
    q.state = .active ∧ q.collision = none ∧ q.resQueue = [] ∧ ∃ k, (look q.slots k).state = .free := by
  simp [IPort.ready, and_assoc, mem_slotIdxs]

/-- The lowest FREE slot is FREE (log entry 11). -/
theorem freeSlot_some {q : IPort} {k : Fin 8} (h : q.freeSlot = some k) : (look q.slots k).state = .free := by
  simpa using List.find?_some h

/-- An outstanding tag is refused from the collision place (R68). -/
theorem underway_refuseTag (h : Underway p owed s) (hr : (s.port i).ready = true) (r : Request) :
    Underway p owed (refuseTag i r s) := by
  obtain ⟨⟨hlists, hstate⟩, hslots⟩ := h.ports.port i
  obtain ⟨hqueues, ⟨hnodup, hcol, hans⟩, hres⟩ := listsFit_iff.1 hlists
  obtain ⟨hact, hnone, _⟩ := ready_iff.1 hr
  have hnot : Answer.collision ∉ (s.port i).answers := fun hm => by rw [hnone] at hcol; exact nomatch hcol.1 hm
  refine underway_raise (underway_frame h rfl ⟨⟨listsFit_iff.2 ⟨hqueues, ⟨?_, ?_, fun k => ?_⟩, hres⟩, ?_⟩, hslots⟩) _
  · refine List.nodup_append.2 ⟨hnodup, List.nodup_singleton _, fun a ha b hb e => hnot ?_⟩
    rwa [← List.mem_singleton.1 hb, ← e]
  · simp
  · simpa using hans k
  · exact (stateFits_active (by exact hact)).2 ((stateFits_active hact).1 hstate)

/-- A request takes a FREE slot, HELD until it is resolved (R69). -/
theorem underway_fillSlot (h : Underway p owed s) (hact : (s.port i).state = .active)
    (hfree : (look (s.port i).slots k).state = .free) (r : Request) :
    Underway p owed (fillSlot i k r s) ∧ Resolving (fillSlot i k r s) i k := by
  obtain ⟨⟨hlists, hstate⟩, hslots⟩ := h.ports.port i
  have hblank : s.slot i k = Slot.blank := by
    have := (hslots k).2
    rwa [hfree] at this
  have hx : ∃ x : Slot, x.state = .held ∧ x.released = false ∧ x.counted = none ∧ x.legs = [] ∧ x.response = none ∧
      fillSlot i k r s = s.modPort i fun q => { q with slots := upd q.slots k x, nextPos := q.nextPos + 1 } :=
    ⟨_, rfl, rfl, rfl, rfl, rfl, rfl⟩
  obtain ⟨x, hs, hrel, hc, hl, hresp, heq⟩ := hx
  rw [heq]
  refine ⟨underway_put h (k := k) (x := x) rfl ⟨⟨?_, ?_⟩, slotsFit_upd (fun n _ => hslots n) ?_⟩ (fun r t' => ?_) ?_,
    ?_, ?_⟩
  · exact listsFit_unlisted hlists (unlisted_of_free hfree) (unlisted_of_held hs hrel)
  · exact stateFits_upd hstate hact rfl rfl rfl (by rw [hs]; nofun)
  · exact fits_of_held hs hc hl hresp
  · rw [hblank, Slot.granted, Slot.granted, hl]; rfl
  · rw [hblank, hc]; rfl
  · rw [modPort_slot (x := x) rfl, if_pos ⟨rfl, rfl⟩]; exact hs
  · rw [modPort_slot (x := x) rfl, if_pos ⟨rfl, rfl⟩]; exact hrel

theorem underway_acceptRequest (h : Underway p owed s) (i : Fin 4) (r : Request) :
    Underway p owed (acceptRequest i r s) := by
  unfold acceptRequest
  dsimp only
  split
  · exact h
  · next hr =>
    have hr : (s.port i).ready = true := by simpa using hr
    split
    · exact underway_refuseTag h hr r
    · split
      · exact h
      · next k hk =>
        obtain ⟨hfill, hresolving⟩ := underway_fillSlot h (ready_iff.1 hr).1 (freeSlot_some hk) r
        split
        · exact underway_raise (underway_takeAnswer hfill hresolving _) _
        · exact underway_resolveSlot hfill hresolving

/-! ## Responses -/

/-- Transactions that are owed an uncount are uncounted one after another (R50). -/
theorem underway_uncounts {cs : List (Option Counted)} (hp : PortsFit s) (ho : OwnersOwe p owed s) (hc : CountsOwe cs s)
    (hm : MapFits s) : Underway p owed (cs.foldl (fun s c => uncountIf c s) s) := by
  induction cs generalizing s with
  | nil => exact ⟨hp, ho, hc, hm⟩
  | cons c cs ih =>
    exact ih (portsFit_uncountIf hp c) (ownersOwe_uncountIf ho c) (countsOwe_uncountIf hc) ((kept_uncountIf c).fits hm)

theorem underway_takeResponse (h : Underway p owed s) (i : Fin 4) : Underway p owed (takeResponse i s) := by
  obtain ⟨⟨hlists, hstate⟩, hslots⟩ := h.ports.port i
  unfold takeResponse
  dsimp only
  split
  · exact h
  · next hst =>
    have hact : (s.port i).state = .active := by cases hs : (s.port i).state <;> simp_all
    split
    · exact h
    · next rest ha =>
      obtain ⟨hqueues, ⟨hnodup, hcol, hans⟩, hres⟩ := listsFit_iff.1 hlists
      rw [ha] at hnodup hans
      obtain ⟨hnot, hnodup'⟩ := List.nodup_cons.1 hnodup
      refine underway_frame h rfl ⟨⟨listsFit_iff.2 ⟨hqueues, ⟨hnodup', iff_of_false hnot nofun, fun k => ?_⟩, hres⟩,
        (stateFits_active (by exact hact)).2 ((stateFits_active hact).1 hstate)⟩, hslots⟩
      rw [← hans]; simp
    · next k rest ha =>
      have hk : (s.slot i k).answered :=
        ((listsFit_iff.1 hlists).2.1.2.2 k).1 (by rw [ha]; exact List.mem_cons_self ..)
      have hfin : ∀ l ∈ (s.slot i k).legs, l.status ≠ .granted := by
        have := (hslots k).2
        rw [show (look (s.port i).slots k).state = .issued from hk.1] at this
        exact this.2.2.1 hk.2
      refine underway_uncounts (cs := [(s.slot i k).counted]) (h.ports.modPort (i := i)
        (f := fun q => { q with answers := rest, slots := upd q.slots k Slot.blank }) ⟨⟨?_, ?_⟩,
        slotsFit_upd (fun n _ => hslots n) blank_fits⟩) (ownersOwe_freed h.owners rfl hfin) (countsOwe_freed h.counts rfl)
        ((MapKept.of_same rfl rfl).fits h.map)
      · exact listsFit_answered hlists ha unlisted_blank
      · exact stateFits_upd hstate hact rfl rfl rfl nofun

/-! ## Port reset -/

/-- A slot after a port reset is FREE or ORPHANED (R79). -/
theorem afterReset_state {sl : Slot} : sl.afterReset.state = .free ∨ sl.afterReset.state = .orphaned := by
  unfold Slot.afterReset
  split
  · next h => exact .inl h
  · next h => exact .inr h
  · exact .inl rfl
  · split
    · exact .inr rfl
    · exact .inl rfl
  · split
    · exact .inr rfl
    · exact .inl rfl

theorem legOut_iff {sl : Slot} : sl.legOut = true ↔ ∃ l ∈ sl.legs, l.status = .granted := by
  simp [Slot.legOut]

/-- A slot that waits on its legs, one of them GRANTED, becomes an orphan on the legs that are not UNGRANTED (R79). -/
theorem orphan_fits {sl x : Slot} (h : sl.awaitsLegs) (hout : sl.legOut = true) (hs : x.state = .orphaned)
    (hl : x.legs = sl.legs.filter fun l => decide (l.status ≠ .ungranted)) (hc : x.counted = sl.counted)
    (hr : x.response = sl.response) : x.fits := by
  obtain ⟨l, hmem, hg⟩ := legOut_iff.1 hout
  refine Slot.awaitsLegs.fits ⟨?_, hc ▸ h.2.1, hr.trans h.2.2.1, .inr ⟨.inr hs, fun m hm => ?_⟩⟩
    ⟨l, by rw [hl]; exact List.mem_filter.2 ⟨hmem, by simp [hg]⟩, .inr hg⟩
  · rw [hl]; exact h.1.sublist (List.filter_sublist.map Leg.role)
  · rw [hl] at hm; simpa using (List.mem_filter.1 hm).2

/-- What a port reset makes of a slot: its GRANTED legs stay, and what it was counted on it is counted on still, or owed
an uncount (R50, R79). -/
theorem afterReset_keeps {sl : Slot} (h : sl.fits) :
    sl.afterReset.fits ∧ (∀ r t, sl.afterReset.granted r t = sl.granted r t) ∧
      (sl.afterReset.counted = sl.counted ∧ sl.uncountedAtReset = none ∨
        sl.afterReset.counted = none ∧ sl.uncountedAtReset = sl.counted) := by
  have hblank (hno : ∀ l ∈ sl.legs, l.status ≠ .granted) (r : LegRole) (t : Fin 4) :
      Slot.blank.granted r t = sl.granted r t :=
    (List.countP_eq_zero.2 fun l hl => by simp [hno l hl]).symm
  have hout (hx : sl.legOut ≠ true) (l : Leg) (hl : l ∈ sl.legs) : l.status ≠ .granted :=
    fun hg => hx (legOut_iff.2 ⟨l, hl, hg⟩)
  have hawaits (hx : sl.legOut = true) : sl.awaitsLegs := by
    obtain ⟨l, hl, hg⟩ := legOut_iff.1 hx
    exact h.awaitsLegs hl hg
  unfold Slot.afterReset Slot.uncountedAtReset
  cases hs : sl.state with
  | free => exact ⟨h, fun _ _ => rfl, .inl ⟨rfl, rfl⟩⟩
  | orphaned => exact ⟨h, fun _ _ => rfl, .inl ⟨rfl, rfl⟩⟩
  | held =>
    obtain ⟨hc, hl, _⟩ := h.held hs
    exact ⟨blank_fits, hblank (by simp [hl]), .inl ⟨hc.symm, rfl⟩⟩
  | waiting =>
    dsimp only
    split
    · next hx =>
      refine ⟨orphan_fits (hawaits hx) hx rfl rfl rfl rfl, fun r t => ?_, .inl ⟨rfl, rfl⟩⟩
      rw [Slot.granted, Slot.granted, List.countP_filter]
      refine List.countP_congr fun l _ => ?_
      simp only [Bool.and_eq_true, decide_eq_true_eq]
      exact and_iff_left_of_imp fun hl => by rw [hl.2.2]; nofun
    · next hx => exact ⟨blank_fits, hblank (hout hx), .inr ⟨rfl, rfl⟩⟩
  | issued =>
    dsimp only
    split
    · next hx =>
      refine ⟨orphan_fits (hawaits hx) hx rfl ?_ rfl rfl, fun _ _ => rfl, .inl ⟨rfl, rfl⟩⟩
      obtain ⟨_, _, _, ⟨hw, _⟩ | ⟨_, hno⟩⟩ := hawaits hx
      · rw [hs] at hw; cases hw
      · exact (List.filter_eq_self.2 fun l hl => by simpa using hno l hl).symm
    · next hx => exact ⟨blank_fits, hblank (hout hx), .inr ⟨rfl, rfl⟩⟩

/-- A port after IRST_N has been asserted fits (R79). -/
theorem resetAsserted_fits {q : IPort} (h : ∀ k, (look q.slots k).fits) : q.resetAsserted.fits := by
  have hslot (k : Fin 8) : look q.resetAsserted.slots k = (look q.slots k).afterReset := look_vmap ..
  have hstates (k : Fin 8) : (look q.resetAsserted.slots k).state = .free ∨
      (look q.resetAsserted.slots k).state = .orphaned := by rw [hslot]; exact afterReset_state
  have hunlisted (k : Fin 8) : (look q.resetAsserted.slots k).unlisted :=
    (hstates k).elim unlisted_of_free unlisted_of_orphaned
  refine ⟨⟨listsFit_iff.2 ⟨fun t => ?_, ⟨List.nodup_nil, ⟨nofun, nofun⟩, fun k => ?_⟩, List.nodup_nil, fun k => ?_⟩,
    iff_of_true rfl (.inl rfl), fun _ => ⟨rfl, hstates⟩⟩, fun k => ?_⟩
  · rw [show look q.resetAsserted.legQueues t = [] from look_replicate ..]
    exact ⟨List.nodup_nil, fun ref => iff_of_false nofun ((hunlisted _).queue _ _)⟩
  · exact iff_of_false nofun (hunlisted k).answer
  · exact iff_of_false nofun (hunlisted k).waits
  · rw [hslot]; exact (afterReset_keeps (h k)).1

/-- What is counted of a list in two ways is counted in both. -/
theorem countP_map_add {α β : Type} (q : β → Bool) (f g h : α → β) (l : List α)
    (hadd : ∀ a ∈ l, [f a].countP q + [g a].countP q = [h a].countP q) :
    (l.map f).countP q + (l.map g).countP q = (l.map h).countP q := by
  induction l with
  | nil => rfl
  | cons a l ih =>
    have ha := hadd a (List.mem_cons_self ..)
    have := ih fun b hb => hadd b (List.mem_cons_of_mem _ hb)
    simp only [List.map_cons, List.countP_cons, List.countP_nil, Nat.zero_add] at ha this ⊢
    omega

/-- IRST_N[i] is asserted: the slots that are freed are owed their uncounts (R50, R79). -/
theorem underway_assertIrst (h : Underway p owed s) (i : Fin 4) : Underway p owed (assertIrst i s) := by
  have hslot (j : Fin 4) (n : Fin 8) : (s.modPort i IPort.resetAsserted).slot j n =
      if j = i then (s.slot j n).afterReset else s.slot j n := by
    rw [State.slot, State.modPort_port]
    split
    · next hj => subst hj; exact look_vmap ..
    · rfl
  have hkeeps (j : Fin 4) (n : Fin 8) := afterReset_keeps ((h.ports.port j).2 n)
  refine underway_uncounts (h.ports.modPort (resetAsserted_fits (h.ports.port i).2))
    (h.owners.of_alike (fun _ => rfl) (fun j n r t' => ?_) rfl)
    (h.counts.of_alike (fun _ => ⟨rfl, rfl, rfl⟩) fun q hq => counteds_of_port (i := i)
      (fun j hj => State.modPort_port_ne _ _ hj) ?_) ((MapKept.of_same rfl rfl).fits h.map)
  · rw [hslot]
    split
    · exact (hkeeps j n).2.1 r t'
    · rfl
  · simp only [State.portSlots, List.map_map, List.append_nil, List.countP_append]
    refine countP_map_add q _ _ _ _ fun n _ => ?_
    simp only [Function.comp, hslot, if_true]
    rcases (hkeeps i n).2.2 with ⟨hc, hu⟩ | ⟨hc, hu⟩
    · rw [State.slot, hc, hu]; simp [hq]
    · rw [State.slot, hc, hu]; simp [hq]

/-- IRST_N[i] is deasserted: the port becomes ACTIVE when no slot is in use (R81). -/
theorem underway_deassertIrst (h : Underway p owed s) (i : Fin 4) :
    Underway p owed (s.modPort i fun q => IPort.wakeFromReset { q with irst := false }) := by
  obtain ⟨⟨hlists, hstate⟩, hslots⟩ := h.ports.port i
  refine underway_frame h ?_ ?_
  · unfold IPort.wakeFromReset; split <;> rfl
  · by_cases hst : (s.port i).state = .resetting
    · obtain ⟨hcol, hstates⟩ := hstate.2 hst
      exact wakeFromReset_fits (q := { s.port i with irst := false }) hlists hslots hst hcol hstates
    · have hirst : (s.port i).irst = false := by simpa using fun hi => hst (hstate.1.2 (.inl hi))
      have heq : IPort.wakeFromReset { s.port i with irst := false } = s.port i := by
        unfold IPort.wakeFromReset
        rw [if_neg fun hw => hst hw.1, ← hirst]
      rw [heq]
      exact ⟨⟨hlists, hstate⟩, hslots⟩

end Sys2Proof.Machine
end

section
/-! SUPPORT. The commands, and so every step, keep the laws of the transactions. -/

namespace Sys2Proof.Machine

variable {s t u : State}

/-- The laws of the slots and of the Target Ports, with those of the map that they rest on. -/
def SlotsFit (s : State) : Prop := (∀ p, Underway p [] s) ∧ TargetPortsFit s

theorem transactionsFit_iff : TransactionsFit s ↔ SlotsFit s ∧ FloorFixed s := by
  constructor
  · rintro ⟨hports, howners, hcounts, htargets, hengine, hrest, hwait, hfloor⟩
    exact ⟨⟨fun p => ⟨hports, (ownersOwe_nil p).2 howners, countsOwe_nil.2 hcounts, hengine, hrest, hwait⟩, htargets⟩, hfloor⟩
  · rintro ⟨⟨hunder, htargets⟩, hfloor⟩
    obtain ⟨hports, howners, hcounts, hengine, hrest, hwait⟩ := hunder 0
    exact ⟨hports, (ownersOwe_nil 0).1 howners, countsOwe_nil.1 hcounts, htargets, hengine, hrest, hwait, hfloor⟩

/-- It is enough to look at one port for the requests to come, when there are none. -/
theorem SlotsFit.of_underway {p : Fin 4} (hu : Underway p [] t) (ht : TargetPortsFit t) : SlotsFit t :=
  ⟨hu.anyPort, ht⟩

theorem SlotsFit.mapFits (h : SlotsFit s) : MapFits s := (h.1 0).map

/-- What moves no transaction and keeps the laws of the map keeps those of the slots. -/
theorem SlotsFit.unmoved (h : SlotsFit s) (hu : Unmoved s t) (hk : MapKept s t) : SlotsFit t :=
  ⟨fun p => hu.underway hk (h.1 p), h.2.of_tports hu.tports⟩

/-- What touches neither the map, the engine nor a port keeps the laws of the slots. -/
theorem SlotsFit.frame (h : SlotsFit s) (hm : t.map = s.map) (he : t.eng = s.eng) (hp : t.ports = s.ports)
    (ht : t.tports = s.tports) : SlotsFit t := h.unmoved (unmoved_frame hm he hp ht) (.of_same hm he)

/-- What happens at the Initiator Ports leaves the Target Ports alone. -/
theorem SlotsFit.initiator (h : SlotsFit s) (hu : ∀ p, Underway p [] s → Underway p [] t) (ht : t.tports = s.tports) :
    SlotsFit t := ⟨fun p => hu p (h.1 p), h.2.of_tports ht⟩

/-- The Target Ports' records change, but not what is outstanding at them. -/
theorem SlotsFit.target (h : SlotsFit s) (hm : t.map = s.map) (he : t.eng = s.eng) (hp : t.ports = s.ports)
    (ho : ∀ p, (t.tport p).owners = (s.tport p).owners) (ht : TargetPortsFit t) : SlotsFit t :=
  .of_underway ((h.1 0).retarget hp hm he (fun p _ => ho p) (.inl (by rw [ho]))) ht

/-! ## Commands at the Management Port -/

/-- What an owning block does with a command moves no transaction. -/
def MovesNothing (act : Action) : Prop := ∀ s, MapFits s → Unmoved s (act s).1

/-- What an owning block does with a command keeps the laws of the slots. -/
def KeepsSlots (act : Action) : Prop := ∀ s, SlotsFit s → SlotsFit (act s).1

theorem slotsFit_writeCommand {code : BitVec 8} {act : Action} (h : KeepsSlots act)
    (hs : SlotsFit s) : SlotsFit (writeCommand code act s) := by
  have hact := h (latchCommand code s) (hs.frame rfl rfl rfl rfl)
  rcases writeCommand_cases s code act with hw | ⟨_, ⟨t, e, ha, hw⟩ | ⟨t, ha, hw⟩⟩ <;> rw [hw]
  · exact hs.frame rfl rfl rfl rfl
  · rw [ha] at hact; exact hact.frame rfl rfl rfl rfl
  · rw [ha] at hact; exact hact

theorem MovesNothing.slotsFit {act : Action} (h : MovesNothing act) (hk : KeepsMap act) : KeepsSlots act :=
  fun s hs => hs.unmoved (h s hs.mapFits) (hk s)

theorem movesNothing_withIndex {n : Nat} {act : DescIdx → Action} (h : ∀ d, MovesNothing (act d)) :
    MovesNothing (withIndex n act) := fun s hs => by
  unfold withIndex
  split
  · exact h _ s hs
  · exact .refl

theorem movesNothing_withMonitor {n : Nat} {act : Fin 16 → Action} (h : ∀ m, MovesNothing (act m)) :
    MovesNothing (withMonitor n act) := fun s hs => by
  unfold withMonitor
  split
  · exact h _ s hs
  · exact .refl

theorem movesNothing_stageAct : MovesNothing stageAct := fun s hs => by
  refine movesNothing_withIndex (fun d s _ => ?_) s hs
  split
  · exact .refl
  · split
    · exact .refl
    · split
      · exact .refl
      · rw [finished_fst]; exact unmoved_modDesc ⟨rfl, rfl, rfl⟩

theorem movesNothing_activateAct : MovesNothing activateAct := fun s hs => by
  refine movesNothing_withIndex (fun d s _ => ?_) s hs
  split
  · exact .refl
  · rw [finished_fst]; exact unmoved_modDesc ⟨rfl, rfl, rfl⟩

theorem movesNothing_modifyAct : MovesNothing modifyAct := fun s hs => by
  refine movesNothing_withIndex (fun d s hs => ?_) s hs
  split
  · exact .refl
  · next hlive =>
    split
    · exact .refl
    · next hsw =>
      split
      · exact .refl
      · next f _ =>
        split
        · exact .refl
        · have hprev : (s.desc d).prev = 0 :=
            ((mapFits_iff.1 hs).2 d).1.prev_zero (by simpa using hsw) fun hd => hlive (by rw [hd]; nofun)
          have hmod : Unmoved s (s.modDesc d fun x => x.modified f) := unmoved_modDesc ⟨rfl, rfl, rfl⟩
          exact hmod.trans (unmoved_startSwitch (by rw [State.modDesc_desc_self]; exact hprev))

theorem movesNothing_retireAct : MovesNothing retireAct := fun s hs => by
  refine movesNothing_withIndex (fun d s hs => ?_) s hs
  split
  · exact .refl
  · next hfloor =>
    have hretired : Unmoved s (withdraw d (finishMonitorsOn d s)) := (unmoved_finishAll _).trans (unmoved_withdraw d)
    split
    · exact .refl
    · exact .refl
    · next hst =>
      have hrest := ((mapFits_iff.1 hs).2 d).1
      rw [finished_fst]
      exact unmoved_modDesc ⟨rfl, (hrest.1 hfloor (.inr hst)).symm, (hrest.prev_of_unused (.inr hst)).2.symm⟩
    · rw [finished_fst]; exact hretired
    · rw [finished_fst]; exact hretired

theorem movesNothing_readDescriptorAct : MovesNothing readDescriptorAct := fun s hs =>
  movesNothing_withIndex (fun _ _ _ => .refl) s hs

theorem movesNothing_probeAct : MovesNothing probeAct := fun s _ => by
  unfold probeAct
  dsimp only
  split
  · exact .refl
  · split
    · split <;> exact .refl
    · exact .refl

theorem movesNothing_queueMigrationAct : MovesNothing queueMigrationAct := fun s _ => by
  unfold queueMigrationAct
  split
  · exact .refl
  · split
    · split
      · exact .refl
      · exact unmoved_enqueueAtOnce _ _ _
    · exact .refl

theorem movesNothing_cancelJobAct : MovesNothing cancelJobAct := fun s _ => by
  unfold cancelJobAct
  dsimp only
  split
  · exact .refl
  · split
    · exact (standing_endQueued _ _).unmoved (endQueued_ports ..) (endQueued_tports ..)
    · split
      · exact .refl
      · split
        · exact .refl
        · exact unmoved_endActive _

theorem movesNothing_queryJobAct : MovesNothing queryJobAct := fun s _ => by
  unfold queryJobAct
  dsimp only
  split
  · exact .refl
  · split
    · exact .refl
    · split <;> exact .refl

theorem halt_outstanding {g h : Engine} (hh : g.halt = some h) : h.outstanding = g.outstanding := by
  unfold Engine.halt at hh
  split at hh
  · cases hh
  · cases hst : g.state <;> rw [hst] at hh <;> cases hh
    case isFalse.copying.refl => split <;> rfl
    all_goals rfl

theorem movesNothing_haltEngineAct : MovesNothing haltEngineAct := fun s _ => by
  unfold haltEngineAct
  split
  · exact .refl
  · next g h => exact unmoved_of_same rfl rfl (halt_outstanding h) fun _ => ⟨rfl, rfl, rfl⟩

theorem movesNothing_resumeEngineAct : MovesNothing resumeEngineAct := fun s hs => by
  unfold resumeEngineAct
  split
  · next hhalt =>
    show Unmoved s (resumeEngine s)
    unfold resumeEngine
    split
    · exact Unmoved.trans (unmoved_modEng rfl) unmoved_activateAtOnce
    · next j hj =>
      split
      · next hst =>
        have hcopying : MapKept s (s.modEng fun g => { g with state := .copying }) :=
          kept_eng_job rfl rfl fun hg => ⟨resumed_fits hg hhalt ⟨by rw [hj]; rfl, hst⟩ nofun, by simp [hhalt]⟩
        have hcopy := hcopying.fits hs
        have hmod : Unmoved s (s.modEng fun g => { g with state := .copying }) := unmoved_modEng rfl
        dsimp only
        split
        · exact hmod.trans (unmoved_enterCutover hcopy rfl ((mapFits_iff.1 hs).1.no_line (by rw [hhalt]; nofun)))
        · exact hmod
      · exact Unmoved.trans (unmoved_modEng rfl) unmoved_beginJob
  · exact .refl

theorem movesNothing_setMonitorAct : MovesNothing setMonitorAct := fun s hs => by
  refine movesNothing_withMonitor (fun m s _ => ?_) s hs
  split
  · exact .refl
  · split
    · split
      · exact .refl
      · split
        · exact .refl
        · exact unmoved_frame rfl rfl rfl rfl
    · exact .refl

theorem movesNothing_stopMonitorAct : MovesNothing stopMonitorAct := fun s hs => by
  refine movesNothing_withMonitor (fun m s _ => ?_) s hs
  split
  · exact .refl
  · exact (unmoved_finishAsks m).trans (unmoved_frame rfl rfl rfl rfl)

theorem movesNothing_readMonitorAct : MovesNothing readMonitorAct := fun s hs =>
  movesNothing_withMonitor (fun _ _ _ => .refl) s hs

theorem movesNothing_restartAct : MovesNothing restartAct := fun _ _ =>
  ((unmoved_finishAll _).trans unmoved_restartEngine).trans (unmoved_frame rfl rfl rfl rfl)

/-- RESTORE TARGET begins an interval at an OFFLINE port, which has no request (R98). -/
theorem slotsFit_restoreTargetAct : KeepsSlots restoreTargetAct := fun s hs => by
  unfold restoreTargetAct
  split
  · split
    · exact hs
    · next hst =>
      refine hs.target rfl rfl rfl (fun p => ?_) (hs.2.modTPort (restoring_fits (hs.2 _) hst))
      rw [State.modTPort_tport]
      split
      · next hp => subst hp; rfl
      · rfl
  · exact hs

theorem slotsFit_actionOf (code : BitVec 8) : KeepsSlots (actionOf code) := by
  unfold actionOf
  split
  · exact movesNothing_stageAct.slotsFit kept_stageAct
  · exact movesNothing_activateAct.slotsFit kept_activateAct
  · exact movesNothing_modifyAct.slotsFit kept_modifyAct
  · exact movesNothing_retireAct.slotsFit kept_retireAct
  · exact movesNothing_readDescriptorAct.slotsFit kept_readDescriptorAct
  · exact movesNothing_probeAct.slotsFit kept_probeAct
  · exact movesNothing_queueMigrationAct.slotsFit kept_queueMigrationAct
  · exact movesNothing_cancelJobAct.slotsFit kept_cancelJobAct
  · exact movesNothing_queryJobAct.slotsFit kept_queryJobAct
  · exact movesNothing_haltEngineAct.slotsFit kept_haltEngineAct
  · exact movesNothing_resumeEngineAct.slotsFit kept_resumeEngineAct
  · exact movesNothing_setMonitorAct.slotsFit kept_setMonitorAct
  · exact movesNothing_stopMonitorAct.slotsFit kept_stopMonitorAct
  · exact movesNothing_readMonitorAct.slotsFit kept_readMonitorAct
  · exact slotsFit_restoreTargetAct
  · exact movesNothing_restartAct.slotsFit kept_restartAct
  · exact fun _ hs => hs

/-- A command's code names the command's own part: a COMMAND write keeps the laws of the slots (R169). -/
theorem slotsFit_command (code : BitVec 8) (hs : SlotsFit s) : SlotsFit (writeCommand code (actionOf code) s) :=
  slotsFit_writeCommand (slotsFit_actionOf code) hs

/-! ## The window -/

theorem slotsFit_writeBudget (hs : SlotsFit s) (v : Word) : SlotsFit (writeBudget v s) :=
  hs.unmoved (unmoved_of_same rfl rfl rfl fun _ => ⟨rfl, rfl, rfl⟩) (kept_writeBudget v)

theorem slotsFit_expireBudget (hs : SlotsFit s) : SlotsFit (expireBudget s) :=
  hs.unmoved (unmoved_of_same rfl rfl rfl fun _ => ⟨rfl, rfl, rfl⟩) kept_expireBudget

theorem slotsFit_writeTimeouts (hs : SlotsFit s) (v : Word) : SlotsFit (writeTimeouts v s) := by
  refine hs.target rfl rfl rfl (fun p => ?_) (targetPortsFit_writeTimeouts hs.2 v)
  rw [State.tport, writeTimeouts, look_tabulate]
  split
  · rfl
  · dsimp only; split <;> rfl

theorem slotsFit_writeWindow (hs : SlotsFit s) (w : WindowWord) (v : Word) : SlotsFit (writeWindow w v s) := by
  cases w with
  | command => exact slotsFit_command _ hs
  | budget => exact slotsFit_writeBudget hs v
  | tgtTimeout => exact slotsFit_writeTimeouts hs v
  | ident => exact hs
  | result => exact hs
  | unnamed => exact hs
  | status => exact hs.frame rfl rfl rfl rfl
  | param => exact hs.frame rfl rfl rfl rfl
  | eventPending => exact hs.frame rfl rfl rfl rfl
  | eventRoute => exact hs.frame rfl rfl rfl rfl
  | retry => exact hs.frame rfl rfl rfl rfl

/-! ## Steps -/

/-- A restore ends at an OFFLINE port, whose queue is empty (R96, R99). -/
theorem slotsFit_endRestore (hs : SlotsFit s) (i : Fin 4) : SlotsFit (endRestore i s) := by
  have htargets := targetPortsFit_endRestore hs.2 i
  unfold endRestore at htargets ⊢
  split at htargets
  · next hr =>
    rw [if_pos hr]
    refine hs.target rfl rfl rfl (fun p => ?_) htargets
    rw [endCommand_tport, State.modTPort_tport]
    split
    · next hp =>
      subst hp
      obtain ⟨_, _, hoff, hrestoring, _⟩ := hs.2 p
      rw [TPort.owners, TPort.owners, (hoff (hrestoring hr)).1]
    · rfl
  · next hr => rw [if_neg hr]; exact hs

theorem slotsFit_grant (hs : SlotsFit s) (p : Fin 4) : SlotsFit (grant p s) :=
  .of_underway (underway_grant (hs.1 p)) (targetPortsFit_grant hs.2 p)

theorem slotsFit_targetAnswers (hs : SlotsFit s) (p : Fin 4) (num : BitVec 4) (code : TargetCode) (data : List Byte) :
    SlotsFit (targetAnswers p num code data s) :=
  .of_underway (underway_targetAnswers (hs.1 p) num code data) (targetPortsFit_targetAnswers hs.2 p num code data)

theorem slotsFit_expireTimer (hs : SlotsFit s) (p : Fin 4) : SlotsFit (expireTimer p s) :=
  .of_underway (underway_expireTimer (hs.1 p)) (targetPortsFit_expireTimer hs.2 p)

/-- The target takes a request from the channel (R85). -/
theorem slotsFit_taken (hs : SlotsFit s) (i : Fin 4) :
    SlotsFit (s.modTPort i fun p => { p with queue := takeFirst p.queue }) := by
  refine hs.target rfl rfl rfl (fun p => ?_) (hs.2.modTPort (taken_fits (hs.2 i)))
  rw [State.modTPort_tport]
  split
  · next hp => subst hp; exact takeFirst_map (fun _ => rfl) _
  · rfl

theorem slotsFit_acceptRequest (hs : SlotsFit s) (i : Fin 4) (r : Request) : SlotsFit (acceptRequest i r s) :=
  hs.initiator (fun _ h => underway_acceptRequest h i r) (butArrivals_acceptRequest i r).1

theorem slotsFit_reResolve (hs : SlotsFit s) (i : Fin 4) : SlotsFit (reResolve i s) :=
  hs.initiator (fun _ h => underway_reResolve h i) (butArrivals_reResolve i).1

theorem slotsFit_takeResponse (hs : SlotsFit s) (i : Fin 4) : SlotsFit (takeResponse i s) :=
  hs.initiator (fun _ h => underway_takeResponse h i) (surround_takeResponse i).1

theorem slotsFit_assertIrst (hs : SlotsFit s) (i : Fin 4) : SlotsFit (assertIrst i s) :=
  hs.initiator (fun _ h => underway_assertIrst h i) (surround_assertIrst i).1

theorem slotsFit_goIdle (hs : SlotsFit s) (m : Fin 16) (arrivals : List Arrival) :
    SlotsFit (goIdle m (finishAsks m { s with arrivals := arrivals })) := by
  have hs' : SlotsFit { s with arrivals := arrivals } := hs.frame rfl rfl rfl rfl
  exact (hs'.unmoved (unmoved_finishAsks m) (standing_finishAsks m).kept).frame rfl rfl rfl rfl

theorem slotsFit_exec (c : Instr) (h : exec c s = .next t) (hs : SlotsFit s) : SlotsFit t := by
  cases c <;> cases h
  case powerOnReset =>
    exact (transactionsFit_iff.1 (lawful_of_powerOn rfl).1).1
  case irstNAssert i => exact slotsFit_assertIrst hs i
  case irstNDeassert i => exact hs.initiator (fun _ h => underway_deassertIrst h i) rfl
  case acceptRequest i r => exact slotsFit_acceptRequest hs i r
  case reResolution i => exact slotsFit_reResolve hs i
  case responseTaken i => exact slotsFit_takeResponse hs i
  case arbiterGrant p => exact slotsFit_grant hs p
  case targetRequestTaken p => exact slotsFit_taken hs p
  case targetResponse p n c d => exact slotsFit_targetAnswers hs p n c d
  case responseTimerExpiry p => exact slotsFit_expireTimer hs p
  case restoreEnd p => exact slotsFit_endRestore hs p
  case lineBegin => exact hs.unmoved unmoved_beginLine kept_beginLine
  case jobActivate => exact hs.unmoved unmoved_activateJob kept_activateJob
  case jobStart => exact hs.unmoved unmoved_beginJob kept_beginJob
  case budgetExpiry => exact slotsFit_expireBudget hs
  case stage => exact slotsFit_command 0x01 hs
  case activate => exact slotsFit_command 0x02 hs
  case modify => exact slotsFit_command 0x03 hs
  case retire => exact slotsFit_command 0x04 hs
  case readDescriptor => exact slotsFit_command 0x05 hs
  case probe => exact slotsFit_command 0x06 hs
  case queueMigration => exact slotsFit_command 0x07 hs
  case cancelJob => exact slotsFit_command 0x08 hs
  case queryJob => exact slotsFit_command 0x09 hs
  case haltEngine => exact slotsFit_command 0x0A hs
  case resumeEngine => exact slotsFit_command 0x0B hs
  case setMonitor => exact slotsFit_command 0x0C hs
  case stopMonitor => exact slotsFit_command 0x0D hs
  case readMonitor => exact slotsFit_command 0x0E hs
  case restoreTarget => exact slotsFit_command 0x0F hs
  case restart => exact slotsFit_command 0x10 hs
  case unknownCommand v => exact slotsFit_writeWindow hs .command v
  case commandOverrun v => exact slotsFit_writeWindow hs .command v
  case budgetWrite v => exact slotsFit_writeBudget hs v
  case tgtTimeoutWrite v => exact slotsFit_writeTimeouts hs v
  case registerWrite off v => exact slotsFit_writeWindow hs _ v
  case goIdle m =>
    split
    · exact slotsFit_goIdle hs m _
    · exact hs
  all_goals exact hs.frame rfl rfl rfl rfl

theorem slotsFit_takeEvent (hs : SlotsFit s) (e : PartEvent) : SlotsFit (takeEvent e s) := by
  cases e with
  | activate => exact hs.unmoved unmoved_activateJob kept_activateJob
  | start => exact hs.unmoved unmoved_beginJob kept_beginJob
  | line => exact hs.unmoved unmoved_beginLine kept_beginLine
  | ask m => exact hs.unmoved (unmoved_takeAsk m) (standing_takeAsk m).kept
  | arrive a =>
    have hs' : SlotsFit { s with arrivals := s.arrivals.erase a } := hs.frame rfl rfl rfl rfl
    exact hs'.unmoved (unmoved_takeArrival a) (kept_takeArrival a)

/-- The counts of time fall: no transaction moves (R92, R98, R131, R145). -/
theorem slotsFit_countAll (hs : SlotsFit s) : SlotsFit (countAll s) := by
  have hcount : SameStanding s (s.modEng fun g => { g with budgetTimer := countDown g.budgetTimer }) :=
    ⟨fun d => ⟨(s.desc d).outcome, rfl⟩, _, _, _, _, rfl⟩
  have heng := hs.unmoved (unmoved_modEng rfl) hcount.kept
  refine heng.target rfl rfl rfl (fun p => ?_) (targetPortsFit_countAll hs.2)
  rw [show (countAll s).tport p = _ from look_vmap ..]
  rfl

theorem slotsFit_expiry {f : State → State} (h : f ∈ expiries u) (hs : SlotsFit s) : SlotsFit (f s) := by
  simp only [expiries, List.mem_append, List.mem_map] at h
  rcases h with ((⟨p, _, rfl⟩ | ⟨p, _, rfl⟩) | h) | ⟨src, _, rfl⟩
  · exact slotsFit_expireTimer hs p
  · exact slotsFit_endRestore hs p
  · split at h
    · rw [List.mem_singleton.1 h]; exact slotsFit_expireBudget hs
    · cases h
  · exact hs.frame rfl rfl rfl rfl

theorem slotsFit_microsecond (hs : SlotsFit s) : SlotsFit (microsecond s) :=
  List.foldlRecOn (motive := SlotsFit) (expiries s) _ (slotsFit_countAll hs) fun _ hv _ hf => slotsFit_expiry hf hv

theorem slotsFit_partStep (hs : SlotsFit s) : SlotsFit (partStep s) := by
  rcases partStep_cases s with ⟨_, h⟩ | ⟨_, ⟨_, h⟩ | ⟨e, _, n, h⟩⟩ <;> rw [h]
  · exact hs
  · exact slotsFit_microsecond hs
  · have hs' : SlotsFit { s with freeDraws := n } := hs.frame rfl rfl rfl rfl
    exact slotsFit_takeEvent hs' e

/-- Every step keeps the laws of the slots. -/
theorem slotsFit_step (h : step s = .next t) (hs : SlotsFit s) : SlotsFit t := by
  unfold step at h
  split at h
  · cases h; exact slotsFit_partStep hs
  · next c rest _ =>
    have hs' : SlotsFit { s with pending := rest } := hs.frame rfl rfl rfl rfl
    exact slotsFit_exec c h hs'

/-- Settles O60: `Underway` counts the results and uncounts that are still to come within a step, `Unmoved` says what
leaves every transaction in its place. -/
theorem transactionsStayFit : Obligations.TransactionsStayFit := fun _ _ hs h => by
  obtain ⟨hslots, hfloor⟩ := transactionsFit_iff.1 hs
  exact transactionsFit_iff.2 ⟨slotsFit_step h hslots, (kept_step h).floor hfloor⟩

end Sys2Proof.Machine
end

section
/-! SUPPORT. The answers that a port presents, and a port's reset as it looks slot by slot (chapter 3). -/

namespace Sys2Proof.Machine

variable {s : State}

/-! ## The answer presented (R66, R76) -/

section
variable {p : IPort} {i : Fin 4} {rest : List Answer} {k : Fin 8}

theorem presented_resetting (h : p.state = .resetting) : p.presented = none := if_pos h

theorem presented_active (h : p.state = .active) :
    p.presented = match p.answers with
      | [] => none
      | .collision :: _ => p.collision.map fun tag => (tag, .decodeErr, [])
      | .slot k :: _ => (look p.slots k).response.map fun code =>
          ((look p.slots k).tag, code,
            if code = .done ∧ (look p.slots k).dir = .read then (look p.slots k).readData.getD [] else []) := by
  have hactive : ¬p.state = .resetting := by rw [h]; nofun
  exact if_neg hactive

theorem takeResponse_resetting (h : (s.port i).state = .resetting) : takeResponse i s = s := if_pos h

theorem takeResponse_empty (h : (s.port i).state = .active) (ha : (s.port i).answers = []) : takeResponse i s = s := by
  simp only [takeResponse, h, ha]; rfl

theorem takeResponse_collision (h : (s.port i).state = .active) (ha : (s.port i).answers = .collision :: rest) :
    takeResponse i s = s.modPort i fun p => { p with answers := rest, collision := none } := by
  simp only [takeResponse, h, ha]; rfl

theorem takeResponse_slot (h : (s.port i).state = .active) (ha : (s.port i).answers = .slot k :: rest) :
    takeResponse i s = uncountIf (s.slot i k).counted
      (s.modPort i fun p => { p with answers := rest, slots := upd p.slots k Slot.blank }) := by
  simp only [takeResponse, h, ha]; rfl

end

/-- Settles O24, by the port's state and what stands at the head of its answer list. -/
theorem responseTakenFreesItsPlace : Obligations.ResponseTakenFreesItsPlace := by
  intro i s
  refine ⟨fun hst => ⟨presented_resetting hst, congrArg _ (takeResponse_resetting hst)⟩, fun hst => ?_⟩
  have hpres := presented_active hst
  refine ⟨fun rest ha => ⟨fun tag htag => ?_, congrArg _ (takeResponse_collision hst ha)⟩,
    fun k rest ha => ⟨fun code hcode => ?_, congrArg _ (takeResponse_slot hst ha)⟩,
    fun ha => ⟨?_, congrArg _ (takeResponse_empty hst ha)⟩⟩
  · rw [hpres, ha]; simp only [htag]; rfl
  · have hresp : (s.port i).presented = some ((s.slot i k).tag, code,
        if code = .done ∧ (s.slot i k).dir = .read then (s.slot i k).readData.getD [] else []) := by
      rw [hpres, ha]; simp only [show (look (s.port i).slots k).response = _ from hcode]; rfl
    refine ⟨fun bytes hdone hread hdata => ?_, fun hno => ?_⟩
    · rw [hresp, if_pos ⟨hdone, hread⟩, hdata, hdone]; rfl
    · rw [hresp, if_neg]
      rintro ⟨hdone, hread⟩
      rcases hno with hno | hwrite
      · exact hno hdone
      · rw [hread] at hwrite; cases hwrite
  · rw [hpres, ha]

/-! ## Port reset (R79, R81) -/

theorem not_legOut_iff {sl : Slot} :
    sl.legOut = false ↔ sl.legs.all (fun l => decide (l.status ≠ .granted)) = true := by
  simp [Slot.legOut]

theorem allFree_iff {p : IPort} : p.allFree = true ↔ ∀ k, (look p.slots k).state = .free := by
  simp [IPort.allFree, mem_slotIdxs]

theorem afterReset_kept {sl : Slot} (h : sl.state = .free ∨ sl.state = .orphaned) : sl.afterReset = sl := by
  rcases h with h | h <;> rw [Slot.afterReset, h]

theorem afterReset_held {sl : Slot} (h : sl.state = .held) : sl.afterReset = Slot.blank := by
  rw [Slot.afterReset, h]

theorem afterReset_issued {sl : Slot} (h : sl.state = .issued) :
    sl.afterReset = if sl.legOut then { sl with state := .orphaned } else Slot.blank := by
  rw [Slot.afterReset, h]

theorem afterReset_waiting {sl : Slot} (h : sl.state = .waiting) :
    sl.afterReset = if sl.legOut then
      { sl with state := .orphaned, legs := sl.legs.filter fun l => decide (l.status ≠ .ungranted) } else Slot.blank := by
  rw [Slot.afterReset, h]

/-- A slot that waits on its legs is freed at a reset unless one of them is out. -/
theorem afterReset_freed {sl : Slot} (h : sl.state = .waiting ∨ sl.state = .issued) (hout : sl.legOut = false) :
    sl.afterReset = Slot.blank := by
  rcases h with h | h
  · rw [afterReset_waiting h, hout]; rfl
  · rw [afterReset_issued h, hout]; rfl

/-- With a leg out it is an orphan, counted as it was. -/
theorem afterReset_orphan {sl : Slot} (h : sl.state = .waiting ∨ sl.state = .issued) (hout : sl.legOut = true) :
    sl.afterReset.state = .orphaned ∧ sl.afterReset.counted = sl.counted := by
  rcases h with h | h
  · rw [afterReset_waiting h, if_pos hout]; exact ⟨rfl, rfl⟩
  · rw [afterReset_issued h, if_pos hout]; exact ⟨rfl, rfl⟩

/-- What a port reset uncounts: the transactions of the slots that it frees, those that wait on legs, none out (R50). -/
theorem uncountedAtReset_eq (sl : Slot) :
    sl.uncountedAtReset =
      if (sl.state = .waiting ∨ sl.state = .issued) ∧ sl.legs.all (fun l => decide (l.status ≠ .granted)) = true then
        sl.counted
      else none := by
  simp only [← not_legOut_iff]
  unfold Slot.uncountedAtReset
  cases sl.state <;> cases sl.legOut <;> rfl

/-- The end of the reset signal wakes a port whose slots are all free (R81). -/
theorem wakeFromReset_irst (p : IPort) :
    IPort.wakeFromReset { p with irst := false } =
      if p.state = .resetting ∧ ∀ k, (look p.slots k).state = .free then
        ⟨.active, false, p.slots, 0, Vector.replicate 4 [], [], none, []⟩
      else { p with irst := false } := by
  unfold IPort.wakeFromReset
  by_cases h : p.state = .resetting ∧ ∀ k, (look p.slots k).state = .free
  · rw [if_pos h, if_pos ⟨h.1, rfl, allFree_iff.2 h.2⟩]
  · rw [if_neg h, if_neg fun hw => h ⟨hw.1, allFree_iff.1 hw.2.2⟩]

theorem resetAsserted_slot (p : IPort) (k : Fin 8) : look p.resetAsserted.slots k = (look p.slots k).afterReset :=
  look_vmap ..

/-- A port reset is one change of the port and the uncounts of the slots that it frees, in the slots' order. -/
theorem assertIrst_eq (i : Fin 4) (s : State) :
    assertIrst i s = ((List.finRange 8).map fun k => (s.slot i k).uncountedAtReset).foldl (fun s c => uncountIf c s)
      (s.modPort i fun _ => (s.port i).resetAsserted) := rfl

/-- Settles O25: each slot by its state and by whether one of its legs is GRANTED. -/
theorem portResetFreesOrOrphans : Obligations.PortResetFreesOrOrphans := by
  refine ⟨fun i s => ⟨(s.port i).resetAsserted, _, congrArg Host.Outcome.next (assertIrst_eq i s), rfl, rfl, rfl, rfl, rfl, fun t => ?_,
    rfl, fun k => ?_, List.map_congr_left fun k _ => uncountedAtReset_eq (s.slot i k)⟩, fun i s => ?_⟩
  · exact look_replicate ..
  · rw [resetAsserted_slot]
    refine ⟨afterReset_kept, afterReset_held, fun hst => ⟨fun hg => ?_, fun hg => ?_⟩⟩
    · have hout := legOut_iff.2 hg
      obtain ⟨horphan, hcounted⟩ := afterReset_orphan hst hout
      refine ⟨horphan, hcounted, fun h => ?_, fun h => ?_⟩
      · exact (afterReset_issued h).trans (if_pos hout)
      · exact (afterReset_waiting h).trans (if_pos hout)
    · exact afterReset_freed hst (Bool.eq_false_iff.2 fun hout => hg (legOut_iff.1 hout))
  · exact congrArg (fun f => Host.Outcome.next (s.modPort i f)) (funext wakeFromReset_irst)

end Sys2Proof.Machine
end

section
/-! SUPPORT. What an uncount does to the counts, and when it ends a drain or completes a switch (R49, R54, R60). -/

namespace Sys2Proof.Machine

variable {s : State} {c : Counted}

@[simp] theorem decrement_gen (gen : BitVec 8) (x : Desc) : (x.decrement gen).gen = x.gen := by
  unfold Desc.decrement; split <;> rfl

@[simp] theorem decrement_switching (gen : BitVec 8) (x : Desc) : (x.decrement gen).switching = x.switching := by
  unfold Desc.decrement; split <;> rfl

@[simp] theorem decrement_state (gen : BitVec 8) (x : Desc) : (x.decrement gen).state = x.state := by
  unfold Desc.decrement; split <;> rfl

@[simp] theorem decrement_outcome (gen : BitVec 8) (x : Desc) : (x.decrement gen).outcome = x.outcome := by
  unfold Desc.decrement; split <;> rfl

/-- The transaction was the last one of an older generation that the switch waits for. -/
def Counted.endsSwitch (c : Counted) (x : Desc) : Prop :=
  c.gen ≠ x.gen ∧ x.switching = true ∧ (x.decrement c.gen).prev = 0

/-- The transaction was the last one of a DRAINING descriptor. -/
def Counted.endsDrain (c : Counted) (x : Desc) : Prop :=
  x.state = .draining ∧ (x.decrement c.gen).cur = 0 ∧ (x.decrement c.gen).prev = 0

theorem uncount_endsSwitch (h : c.endsSwitch (s.desc c.index)) :
    uncount c s = completeSwitch c.index (s.modDesc c.index (Desc.decrement c.gen)) := by
  unfold uncount
  simp only [State.modDesc_desc_self, decrement_gen, decrement_switching]
  exact if_pos h

theorem uncount_drainEnd (h : ¬c.endsSwitch (s.desc c.index)) :
    uncount c s = drainEnd c.index (s.modDesc c.index (Desc.decrement c.gen)) := by
  unfold uncount
  simp only [State.modDesc_desc_self, decrement_gen, decrement_switching]
  exact if_neg h

theorem drainEnd_modDesc {d : DescIdx} {f : Desc → Desc} :
    drainEnd d (s.modDesc d f) =
      if (f (s.desc d)).state = .draining ∧ (f (s.desc d)).cur = 0 ∧ (f (s.desc d)).prev = 0 then
        raise .retired (s.modDesc d (Desc.freed ∘ f))
      else s.modDesc d f := by
  rw [drainEnd, State.modDesc_desc_self, modDesc_modDesc]

/-- An uncount that completes no switch ends a drain or lowers a count, and does no more. -/
theorem uncount_endsDrain (h : ¬c.endsSwitch (s.desc c.index)) (hd : c.endsDrain (s.desc c.index)) :
    uncount c s = raise .retired (s.modDesc c.index (Desc.freed ∘ Desc.decrement c.gen)) := by
  rw [uncount_drainEnd h, drainEnd_modDesc, decrement_state]
  exact if_pos hd

theorem uncount_lowers (h : ¬c.endsSwitch (s.desc c.index)) (hd : ¬c.endsDrain (s.desc c.index)) :
    uncount c s = s.modDesc c.index (Desc.decrement c.gen) := by
  rw [uncount_drainEnd h, drainEnd_modDesc, decrement_state]
  exact if_neg hd

/-- The last transaction of a DRAINING descriptor, of its generation or an older one, ends the drain. -/
theorem endsDrain_of_last {x : Desc} (hx : x.state = .draining)
    (hlast : c.gen = x.gen ∧ x.cur = 1 ∧ x.prev = 0 ∨ c.gen ≠ x.gen ∧ x.cur = 0 ∧ x.prev = 1) : c.endsDrain x := by
  unfold Counted.endsDrain Desc.decrement
  rcases hlast with ⟨hgen, hcur, hprev⟩ | ⟨hgen, hcur, hprev⟩
  · rw [if_pos hgen]; exact ⟨hx, congrArg (· - 1) hcur, hprev⟩
  · rw [if_neg hgen]; exact ⟨hx, hcur, congrArg (· - 1) hprev⟩

/-- Settles O27: an uncount completes a switch, ends a drain or lowers a count. -/
theorem uncountLowersACountOrEndsADrain : Obligations.UncountLowersACountOrEndsADrain := by
  refine ⟨fun c s hswitch hdrain => ?_, fun c s hst hsw hlast => ?_⟩
  · have hnodrain : ¬c.endsDrain (s.desc c.index) := hdrain
    exact uncount_lowers hswitch hnodrain
  · have hnoswitch : ¬c.endsSwitch (s.desc c.index) := fun ⟨_, h, _⟩ => absurd (hsw.symm.trans h) nofun
    rw [uncount_endsDrain hnoswitch (endsDrain_of_last hst hlast)]
    have hfreed : (s.desc c.index |>.decrement c.gen).freed =
        ⟨.free, false, 0, 12, .fault, .fault, none, Vector.replicate 4 .none, (s.desc c.index).gen, 0, 0,
          (s.desc c.index).outcome⟩ := by
      rw [Desc.freed, decrement_gen, decrement_outcome]; rfl
    exact congrArg (fun x => raise .retired (s.modDesc c.index fun _ => x)) hfreed

end Sys2Proof.Machine
end

section
/-! SUPPORT. The completion of a switch: the job that ends with it, the job that has waited for it, and the held
transactions that it releases (R54, R110, R117). -/

namespace Sys2Proof.Machine

variable {s t : State} {d : DescIdx} {j : Job}

/-! ## The event flags and the start of a job -/

theorem raise_flag (c e : EventClass) (s : State) : (raise c s).isPending e = (s.isPending e || decide (e = c)) := by
  rw [isPending_raise]
  split
  · next h => simp [h]
  · next h => simp [h]

theorem endActive_flag (e : Ending) (hj : s.eng.active = some j) (k : EventClass) :
    (endActive e s).isPending k = (s.isPending k || decide (k = e.event)) := by
  rw [Bool.eq_iff_iff, endActive_isPending e hj, Bool.or_eq_true, decide_eq_true_iff]

/-- The descriptor of the active job when the job has ended in STARTING, where no descriptor is MIGRATING for it. -/
theorem endActive_desc_settled (e : Ending) (hj : s.eng.active = some j) (hd : ordIdx j.desc = d)
    (hst : (s.desc d).state ≠ .migrating) : (endActive e s).desc d = { s.desc d with outcome := e.outcome } := by
  rw [endActive_desc s e hj, if_pos hd.symm, if_neg fun h => hst h.2]

/-- A job waits in STARTING for the descriptor (R110). -/
def Engine.awaits (g : Engine) (d : DescIdx) (j : Job) : Prop :=
  g.active = some j ∧ g.state = .starting ∧ ordIdx j.desc = d

theorem recheckStart_idle (h : ∀ j, ¬s.eng.awaits d j) : recheckStart d s = s := by
  refine recheckStart_other ?_
  rintro ⟨hd, hst⟩
  obtain ⟨j, hj, hd⟩ := Option.map_eq_some_iff.1 hd
  exact h j ⟨hj, hst, hd⟩

theorem recheckStart_awaited (h : s.eng.awaits d j) : recheckStart d s =
    match startVerdict (s.desc d) j with
    | .fail r => endActive (.failed r 0) s
    | .wait => s
    | .pass => (s.modDesc d fun x => { x with state := .migrating }).modEng Engine.begun := by
  obtain ⟨hj, hst, rfl⟩ := h
  rw [recheckStart, if_pos (by rw [hj]; rfl), beginJob]
  simp only [hj, hst]
  rfl

theorem recheckStart_fail (h : s.eng.awaits d j) {r : FailReason} (hv : startVerdict (s.desc d) j = .fail r) :
    recheckStart d s = endActive (.failed r 0) s := by
  rw [recheckStart_awaited h, hv]

theorem recheckStart_pass (h : s.eng.awaits d j) (hv : startVerdict (s.desc d) j = .pass) :
    recheckStart d s = (s.modDesc d fun x => { x with state := .migrating }).modEng Engine.begun := by
  rw [recheckStart_awaited h, hv]

/-- A job waits for nothing but a switch (R110). -/
theorem startVerdict_ne_wait {x : Desc} (h : x.switching = false) : startVerdict x j ≠ .wait := by
  unfold startVerdict
  rw [h]
  split
  · nofun
  · rw [if_neg nofun]
    split
    · nofun
    · split
      · nofun
      · split <;> nofun

/-! ## The state when the last old transaction is gone -/

/-- The record of a descriptor whose switch is complete. -/
def Desc.switched (x : Desc) : Desc :=
  { x with switching := false, prev := 0, state := if x.state = .migrating then .live else x.state }

/-- The switch is complete, and nothing else has happened yet. -/
def switched (d : DescIdx) (s : State) : State := raise .switched (s.modDesc d Desc.switched)

/-- The last transaction of an older generation completes the switch; a MIGRATING descriptor's job ends before the held
transactions are released, and a job in STARTING takes its start checks after that. -/
theorem uncount_switched {c : Counted} (hgen : c.gen ≠ (s.desc c.index).gen) (hsw : (s.desc c.index).switching = true)
    (hprev : (s.desc c.index).prev = 1) :
    uncount c s = recheckStart c.index (release (Hold.onSwitch c.index)
      (if (s.desc c.index).state = .migrating then endActive .completed (switched c.index s) else switched c.index s)) := by
  have hdec : (s.desc c.index).decrement c.gen = { s.desc c.index with prev := 0 } := by
    rw [Desc.decrement, if_neg hgen, hprev]
  have hends : c.endsSwitch (s.desc c.index) := ⟨hgen, hsw, by rw [hdec]⟩
  have hmod : ((s.modDesc c.index (Desc.decrement c.gen)).modDesc c.index fun x =>
      { x with switching := false, state := if x.state = .migrating then .live else x.state }) =
      s.modDesc c.index Desc.switched := by
    rw [modDesc_modDesc]
    refine congrArg (fun x => s.modDesc c.index fun _ => x) ?_
    rw [Function.comp, hdec]; rfl
  rw [uncount_endsSwitch hends, completeSwitch, switchDone, hmod, State.modDesc_desc_self, decrement_state]
  rfl

section
variable (d : DescIdx) (s : State)

@[simp] theorem switched_desc_self : (switched d s).desc d = (s.desc d).switched := State.modDesc_desc_self ..
@[simp] theorem switched_desc_ne {e : DescIdx} (h : e ≠ d) : (switched d s).desc e = s.desc e :=
  State.modDesc_desc_ne _ _ h
@[simp] theorem switched_eng : (switched d s).eng = s.eng := rfl
theorem switched_flag (e : EventClass) : (switched d s).isPending e = (s.isPending e || decide (e = .switched)) :=
  raise_flag ..

variable {d s} in
theorem switched_active (hj : s.eng.active = some j) : (switched d s).eng.active = some j := hj

end

/-! ## A descriptor that is MIGRATING, and one that is not -/

/-- The state in which the job that copies the descriptor has ended with the switch, and the held transactions are
released (R54, R111). -/
def completedSwitch (d : DescIdx) (s : State) : State :=
  release (Hold.onSwitch d) (endActive .completed (switched d s))

theorem completedSwitch_eng (hj : s.eng.active = some j) : (completedSwitch d s).eng = s.eng.afterJob := by
  rw [completedSwitch, release_eng, endActive_eng, switched_eng, if_neg (by rw [hj]; nofun)]

theorem uncount_migrating {c : Counted} (hgen : c.gen ≠ (s.desc c.index).gen)
    (hsw : (s.desc c.index).switching = true) (hprev : (s.desc c.index).prev = 1)
    (hm : (s.desc c.index).state = .migrating) (hj : s.eng.active = some j) :
    uncount c s = completedSwitch c.index s := by
  rw [uncount_switched hgen hsw hprev, if_pos hm]
  refine recheckStart_idle fun k hk => ?_
  have hact : (completedSwitch c.index s).eng.active = none := by rw [completedSwitch_eng hj, afterJob_active]
  exact absurd (hact.symm.trans hk.1) nofun

theorem completedSwitch_desc (hj : s.eng.active = some j) (hd : ordIdx j.desc = d)
    (hm : (s.desc d).state = .migrating) :
    (completedSwitch d s).desc d = { s.desc d with switching := false, prev := 0, state := .live, outcome := .done } := by
  have hlive : (s.desc d).switched.state = .live := if_pos hm
  have hst : ((switched d s).desc d).state ≠ .migrating := by rw [switched_desc_self, hlive]; nofun
  rw [completedSwitch, release_desc, endActive_desc_settled .completed (switched_active hj) hd hst, switched_desc_self,
    Desc.switched, if_pos hm]
  rfl

theorem completedSwitch_flag (hj : s.eng.active = some j) (e : EventClass) :
    (completedSwitch d s).isPending e = (s.isPending e || decide (e = .switched) || decide (e = .jobDone)) := by
  rw [← switched_flag d s e]
  exact endActive_flag .completed (switched_active hj) e

theorem completedSwitch_port (hj : s.eng.active = some j) (hd : ordIdx j.desc = d) (i : Fin 4) :
    (completedSwitch d s).port i = releasePort (Hold.onSwitch d) (releasePort (Hold.onDescLine d) (s.port i)) := by
  rw [completedSwitch, release_port, endActive_port .completed (switched_active hj), hd]; rfl

/-- The state in which the switch of a descriptor that is not MIGRATING is complete and the held transactions are
released (R54). -/
def releasedSwitch (d : DescIdx) (s : State) : State := release (Hold.onSwitch d) (switched d s)

theorem uncount_settled {c : Counted} (hgen : c.gen ≠ (s.desc c.index).gen)
    (hsw : (s.desc c.index).switching = true) (hprev : (s.desc c.index).prev = 1)
    (hm : (s.desc c.index).state ≠ .migrating) : uncount c s = recheckStart c.index (releasedSwitch c.index s) := by
  rw [uncount_switched hgen hsw hprev, if_neg hm]; rfl

theorem releasedSwitch_desc (hm : (s.desc d).state ≠ .migrating) :
    (releasedSwitch d s).desc d = { s.desc d with switching := false, prev := 0 } := by
  rw [releasedSwitch, release_desc, switched_desc_self, Desc.switched, if_neg hm]

theorem releasedSwitch_flag (e : EventClass) :
    (releasedSwitch d s).isPending e = (s.isPending e || decide (e = .switched)) := switched_flag d s e

theorem releasedSwitch_port (i : Fin 4) : (releasedSwitch d s).port i = releasePort (Hold.onSwitch d) (s.port i) := by
  rw [releasedSwitch, release_port]; rfl

/-! ## What every completion does -/

/-- What every completion of a switch on `d` does, whatever becomes of a job: the event is set, the transactions held on
the switch wait for their resolution, and the other descriptors stay. -/
structure SwitchOver (d : DescIdx) (s t : State) : Prop where
  set    : t.isPending .switched = true
  waits  : ∀ i k, (s.slot i k).named (Hold.onSwitch d) = true → (t.port i).waits k
  others : ∀ e, e ≠ d → t.desc e = s.desc e
  route  : t.evc.route = s.evc.route

theorem switchOver_released : SwitchOver d s (releasedSwitch d s) where
  set := (releasedSwitch_flag _).trans (by simp)
  waits i k hk := by rw [releasedSwitch_port]; exact waits_of_named hk
  others e he := switched_desc_ne d s he
  route := rfl

/-- The job that copies the descriptor ends before the release. -/
theorem switchOver_completed (hj : s.eng.active = some j) (hd : ordIdx j.desc = d) :
    SwitchOver d s (completedSwitch d s) where
  set := (completedSwitch_flag hj _).trans (by simp)
  waits i k hk := by rw [completedSwitch_port hj hd]; exact waits_of_named_later hk
  others e he := by
    rw [completedSwitch, release_desc, endActive_desc _ _ (switched_active hj), if_neg (hd ▸ he)]
    exact switched_desc_ne d s he
  route := endActive_route _

/-- The job that has waited for the switch fails after the release. -/
theorem SwitchOver.endActive (h : SwitchOver d s t) (e : Ending) (hj : t.eng.active = some j) (hd : ordIdx j.desc = d) :
    SwitchOver d s (Machine.endActive e t) where
  set := by rw [endActive_flag e hj, h.set]; rfl
  waits i k hk := by rw [endActive_port e hj]; exact (h.waits i k hk).release _
  others b hb := by rw [endActive_desc t e hj, if_neg (hd ▸ hb)]; exact h.others b hb
  route := (endActive_route e).trans h.route

/-- It starts after the release. -/
theorem SwitchOver.begun (h : SwitchOver d s t) :
    SwitchOver d s ((t.modDesc d fun x => { x with state := .migrating }).modEng Engine.begun) where
  set := h.set
  waits := h.waits
  others b hb := by rw [State.modEng_desc, State.modDesc_desc_ne _ _ hb]; exact h.others b hb
  route := h.route

theorem SwitchOver.recheckStart (h : SwitchOver d s t) : SwitchOver d s (recheckStart d t) := by
  by_cases hw : ∃ j, t.eng.awaits d j
  · obtain ⟨j, hw⟩ := hw
    rw [recheckStart_awaited hw]
    split
    · exact h.endActive _ hw.1 hw.2.2
    · exact h
    · exact h.begun
  · rw [recheckStart_idle (not_exists.1 hw)]
    exact h

/-- Settles O28, by the descriptor's state and, for one that is LIVE, by the start verdict of the job that waits. -/
theorem lastOldTransactionCompletesTheSwitch : Obligations.LastOldTransactionCompletesTheSwitch := by
  intro c s d x hfits hswitches hgen hsw hprev t y waits onSwitch onLines
  have hcopies (hm : x.state = .migrating) : ∃ j, s.eng.active = some j ∧ ordIdx j.desc = d :=
    (hfits.copies_of_migrating hm).2
  have hover : SwitchOver d s t := by
    by_cases hm : x.state = .migrating
    · obtain ⟨j, hj, hd⟩ := hcopies hm
      rw [show t = _ from uncount_migrating hgen hsw hprev hm hj]
      exact switchOver_completed hj hd
    · rw [show t = _ from uncount_settled hgen hsw hprev hm]
      exact switchOver_released.recheckStart
  refine ⟨hover.set, fun hm => ?_, fun hm => ?_, fun i k hk => hover.waits i k hk, hover.others, hover.route,
    surround_uncount c⟩
  · obtain ⟨j, hj, hd⟩ := hcopies hm
    rw [show t = _ from uncount_migrating hgen hsw hprev hm hj]
    exact ⟨completedSwitch_desc hj hd hm, completedSwitch_eng hj, completedSwitch_flag hj, completedSwitch_port hj hd⟩
  · have hlive : x.state = .live := by
      have huse := ((hswitches d).1 hsw).1
      simpa [Desc.inUse, show (s.desc d).state ≠ .migrating from hm] using huse
    have ht : t = recheckStart d (releasedSwitch d s) := uncount_settled hgen hsw hprev hm
    have hy : (releasedSwitch d s).desc d = y := releasedSwitch_desc hm
    have hwaits {j : Job} (hw : waits j) : (releasedSwitch d s).eng.awaits d j := hw
    refine ⟨hlive, fun hno => ?_, fun j hw => ⟨fun hv => ?_, fun r hv => ?_, startVerdict_ne_wait rfl⟩⟩
    · rw [ht, recheckStart_idle (s := releasedSwitch d s) hno]
      exact ⟨hy, rfl, releasedSwitch_flag, releasedSwitch_port⟩
    · rw [ht, recheckStart_pass (hwaits hw) (hy ▸ hv)]
      refine ⟨?_, rfl, releasedSwitch_flag, releasedSwitch_port⟩
      rw [State.modEng_desc, State.modDesc_desc_self, hy]
    · rw [ht, recheckStart_fail (hwaits hw) (hy ▸ hv)]
      have hj : (releasedSwitch d s).eng.active = some j := hw.1
      have hst : ((releasedSwitch d s).desc d).state ≠ .migrating := by rw [hy]; exact hm
      refine ⟨?_, ?_, fun e => ?_, fun i => ?_⟩
      · rw [endActive_desc_settled _ hj hw.2.2 hst, hy]; rfl
      · rw [endActive_eng, if_neg (by rw [hj]; nofun)]; rfl
      · rw [endActive_flag _ hj, releasedSwitch_flag]; rfl
      · rw [endActive_port _ hj, hw.2.2, releasedSwitch_port]

end Sys2Proof.Machine
end

section
/-! SUPPORT. Cutover: the routes it installs, the switch that it begins, and the job that ends at once when no
transaction is in flight (R139, R140). -/

namespace Sys2Proof.Machine

variable {s : State} {d : DescIdx} {j : Job}

section
variable (x : Desc) (j : Job)

@[simp] theorem cutover_read : (x.cutover j).read = .window j.dest := by
  unfold Desc.cutover; split <;> rfl

theorem cutover_write :
    (x.cutover j).write = match j.mode with | .move => .window j.dest | .shadow => x.write := by
  unfold Desc.cutover; cases j.mode <;> rfl

/-- The old image stays a mirror of the new one in SHADOW mode, when writes have a target (R139). -/
theorem cutover_mirror :
    (x.cutover j).mirror = match j.mode, x.write with | .shadow, .window _ => some j.dest | _, _ => none := by
  unfold Desc.cutover
  rcases j.mode with _ | _
  · rfl
  · rcases x.write with _ | _ | _ <;> rfl

/-- The record after cutover while transactions of the old generation are in flight. -/
def Desc.cutoverSwitching : Desc :=
  { x.cutover j with gen := x.gen + 1, prev := x.cur, cur := 0, switching := true }

/-- The record after cutover when none is. -/
def Desc.cutoverLive : Desc := { x.cutover j with gen := x.gen + 1, state := .live }

end

/-- The routes of the mode are installed under the next generation, and the region stays (R139). -/
structure Desc.cutFrom (y x : Desc) (j : Job) : Prop where
  read   : y.read = .window j.dest
  write  : y.write = match j.mode with | .move => .window j.dest | .shadow => x.write
  mirror : y.mirror = match j.mode, x.write with | .shadow, .window _ => some j.dest | _, _ => none
  perms  : y.perms = x.perms
  base   : y.base = x.base
  size   : y.size = x.size
  gen    : y.gen = x.gen + 1

/-- Every record with the routes of a cutover and the next generation. -/
theorem cutFrom_of_cutover {x y : Desc} (hr : y.read = (x.cutover j).read) (hw : y.write = (x.cutover j).write)
    (hm : y.mirror = (x.cutover j).mirror) (hp : y.perms = (x.cutover j).perms) (hb : y.base = (x.cutover j).base)
    (hs : y.size = (x.cutover j).size) (hg : y.gen = x.gen + 1) : y.cutFrom x j := by
  obtain ⟨_, _, _, hx⟩ := cutover_routes x j
  exact ⟨hr.trans (cutover_read x j), hw.trans (cutover_write x j), hm.trans (cutover_mirror x j), hp.trans (by rw [hx]),
    hb.trans (by rw [hx]), hs.trans (by rw [hx]), hg⟩

theorem cutoverSwitching_cutFrom (x : Desc) (j : Job) : (x.cutoverSwitching j).cutFrom x j :=
  cutFrom_of_cutover rfl rfl rfl rfl rfl rfl rfl

/-- The job writes its outcome into the record as it ends. -/
theorem cutoverLive_cutFrom (x : Desc) (j : Job) (o : LastOutcome) : { x.cutoverLive j with outcome := o }.cutFrom x j :=
  cutFrom_of_cutover rfl rfl rfl rfl rfl rfl rfl

/-- The engine enters CUTOVER, and the descriptor of its job becomes `y`. -/
def cutTo (d : DescIdx) (y : Desc) (s : State) : State :=
  (s.modEng fun g => { g with state := .cutover }).modDesc d fun _ => y

@[simp] theorem cutTo_desc_self (d : DescIdx) (y : Desc) : (cutTo d y s).desc d = y := State.modDesc_desc_self ..

@[simp] theorem cutTo_desc_ne {e : DescIdx} (y : Desc) (h : e ≠ d) : (cutTo d y s).desc e = s.desc e :=
  State.modDesc_desc_ne _ _ h

/-- A change of the descriptor whose routes are being installed. -/
theorem cuttingOver_modDesc (j : Job) (f : Desc → Desc) :
    (cuttingOver j s).modDesc (ordIdx j.desc) f =
      cutTo (ordIdx j.desc) (f ((s.desc (ordIdx j.desc)).cutover j)) s := modDesc_modDesc ..

theorem cuttingOver_desc_self (j : Job) :
    (cuttingOver j s).desc (ordIdx j.desc) = (s.desc (ordIdx j.desc)).cutover j := State.modDesc_desc_self ..

theorem cutover_cur (x : Desc) (j : Job) : (x.cutover j).cur = x.cur := by
  obtain ⟨_, _, _, hx⟩ := cutover_routes x j; rw [hx]

theorem cutover_gen (x : Desc) (j : Job) : (x.cutover j).gen = x.gen := by
  obtain ⟨_, _, _, hx⟩ := cutover_routes x j; rw [hx]

theorem cutover_state (x : Desc) (j : Job) : (x.cutover j).state = x.state := by
  obtain ⟨_, _, _, hx⟩ := cutover_routes x j; rw [hx]

theorem cutover_switching (x : Desc) (j : Job) : (x.cutover j).switching = x.switching := by
  obtain ⟨_, _, _, hx⟩ := cutover_routes x j; rw [hx]

/-- With transactions in flight the switch waits for them (R139). -/
theorem enterCutover_switching (hj : s.eng.active = some j) (hc : (s.desc (ordIdx j.desc)).cur ≠ 0) :
    enterCutover s = cutTo (ordIdx j.desc) ((s.desc (ordIdx j.desc)).cutoverSwitching j) s := by
  rw [enterCutover_eq hj, startSwitch, if_neg (by rwa [cuttingOver_desc_self, cutover_cur]), cuttingOver_modDesc,
    cutover_cur, cutover_gen]
  rfl

/-- With none in flight the job ends at once (R140). -/
theorem enterCutover_live (hj : s.eng.active = some j) (hm : (s.desc (ordIdx j.desc)).state = .migrating)
    (hc : (s.desc (ordIdx j.desc)).cur = 0) :
    enterCutover s =
      endActive .completed (cutTo (ordIdx j.desc) ((s.desc (ordIdx j.desc)).cutoverLive j) s) := by
  have hcut := cutover_state (s.desc (ordIdx j.desc)) j
  rw [enterCutover_eq hj, startSwitch, if_pos (by rwa [cuttingOver_desc_self, cutover_cur])]
  dsimp only
  rw [if_pos (by rw [cuttingOver_desc_self, hcut, hm]), cuttingOver_modDesc, cutover_gen, hcut, if_pos hm]
  rfl

/-- The descriptor of a started job is MIGRATING (R11). -/
theorem EngineFits.migrating_of_started (h : EngineFits s) (hst : s.eng.started = true) (hj : s.eng.active = some j) :
    (s.desc (ordIdx j.desc)).state = .migrating := by
  obtain ⟨_, _, _, ⟨_, hmig⟩, _⟩ := h
  exact (hmig j.desc).2 ⟨hst, by rw [hj]; rfl⟩

/-- Settles O39, by whether transactions are in flight on the descriptor at cutover. -/
theorem cutoverInstallsTheDestination : Obligations.CutoverInstallsTheDestination := by
  intro s j hj hst hfits hsw d x t
  have hm : x.state = .migrating := hfits.migrating_of_started hst hj
  by_cases hc : x.cur = 0
  · have ht : t = endActive .completed (cutTo d (x.cutoverLive j) s) := enterCutover_live hj hm hc
    have hact : (cutTo d (x.cutoverLive j) s).eng.active = some j := hj
    have hlive : ((cutTo d (x.cutoverLive j) s).desc d).state ≠ .migrating := by rw [cutTo_desc_self]; nofun
    have hy : t.desc d = { x.cutoverLive j with outcome := .done } := by
      rw [ht, endActive_desc_settled _ hact rfl hlive, cutTo_desc_self]; rfl
    obtain ⟨hread, hwrite, hmirror, hperms, hbase, hsize, hgen⟩ := cutoverLive_cutFrom x j .done
    rw [hy]
    refine ⟨hread, hwrite, hmirror, hperms, hbase, hsize, hgen, fun e he => ?_, surround_enterCutover,
      fun h => absurd hc h, fun _ => ⟨rfl, ?_, rfl, ?_, ?_, ?_⟩⟩
    · rw [ht, endActive_desc _ _ hact, if_neg he, cutTo_desc_ne _ he]
    · exact (cutover_switching x j).trans hsw
    · rw [ht, endActive_eng, if_neg (by rw [hact]; nofun)]; rfl
    · rw [ht, endActive_flag _ hact]; simp [Ending.event]
    · rw [ht, endActive_flag _ hact]; simp [Ending.event]; rfl
  · have ht : t = cutTo d (x.cutoverSwitching j) s := enterCutover_switching hj hc
    have hy : t.desc d = x.cutoverSwitching j := by rw [ht, cutTo_desc_self]
    obtain ⟨hread, hwrite, hmirror, hperms, hbase, hsize, hgen⟩ := cutoverSwitching_cutFrom x j
    rw [hy]
    refine ⟨hread, hwrite, hmirror, hperms, hbase, hsize, hgen, fun e he => ?_, surround_enterCutover,
      fun _ => ⟨(cutover_state x j).trans hm, rfl, rfl, rfl, ?_, ?_, ?_⟩, fun h => absurd h hc⟩
    · rw [ht, cutTo_desc_ne _ he]
    all_goals rw [ht]; rfl

end Sys2Proof.Machine
end

section
/-! SUPPORT. The other blocks after power-on reset, each at its chapter's values (R82, R83, R108, R143, R145, R165,
R168). -/

namespace Sys2Proof.Machine

section
variable (defsel : BitVec 3) (irst : Vector Bool 4)

@[simp] theorem powerOn_mgmt : (State.powerOn defsel irst).mgmt = Mgmt.powerOn := rfl

@[simp] theorem powerOn_routeOf (c : EventClass) : (State.powerOn defsel irst).routeOf c = .off :=
  look_replicate ..

end

/-- With no class pending no line is driven (R163). -/
theorem drives_powerOn (r : Route) : drives EventCtl.powerOn r = false :=
  List.any_eq_false.2 fun n _ => by simp [EventCtl.powerOn]

/-- A port after power-on is empty, its IRST_N at the level that it had (R82). -/
theorem portPowerOn_empty (b : Bool) :
    (IPort.powerOn b).state = (if b = true then .resetting else .active) ∧ (IPort.powerOn b).irst = b ∧
      (∀ t, look (IPort.powerOn b).legQueues t = []) ∧ (IPort.powerOn b).answers = [] ∧
      (IPort.powerOn b).collision = none ∧ (IPort.powerOn b).resQueue = [] :=
  ⟨rfl, rfl, fun t => look_replicate [] t, rfl, rfl, rfl⟩

/-- Settles O5, block by block. -/
theorem powerOnResetSetsTheBlocks : Obligations.PowerOnResetSetsTheBlocks := by
  intro defsel s
  let irst := vmap IPort.irst s.ports
  refine ⟨_, rfl, fun i => ?_, powerOn_tport defsel irst, rfl, powerOn_mon defsel irst, rfl, rfl, rfl, rfl, rfl,
    fun c => ⟨powerOn_isPending defsel irst c, powerOn_routeOf defsel irst c⟩, drives_powerOn .irq,
    drives_powerOn .alert, fun t => ?_, rfl, rfl⟩
  · have hport : (State.powerOn defsel irst).port i = IPort.powerOn (s.port i).irst := by
      rw [powerOn_port]; exact congrArg _ (look_vmap ..)
    have hslot (k : Fin 8) : ((State.powerOn defsel irst).slot i k).state = .free := by rw [powerOn_slot]; rfl
    obtain ⟨hstate, hirst, hqueues, hanswers, hcollision, hres⟩ := portPowerOn_empty (s.port i).irst
    rw [← hport] at hstate hirst hqueues hanswers hcollision hres
    exact ⟨hstate, hirst, hslot, hqueues, hanswers, hcollision, hres⟩
  · have hrest : ((State.powerOn defsel irst).tport t).restoring = none := by rw [powerOn_tport]; rfl
    show (!false && ((State.powerOn defsel irst).tport t).restoring.isNone) = true
    rw [hrest]; rfl

end Sys2Proof.Machine
end

section
/-! SUPPORT. Acceptance at an Initiator Port, case by case: not ready, an outstanding tag, and a FREE slot filled (R67
to R69). -/

namespace Sys2Proof.Machine

variable {s : State} {i : Fin 4} {k : Fin 8} {r : Request}

/-- A tag is outstanding when a slot that is not FREE has it (R68). -/
theorem tagOutstanding_iff {p : IPort} {tag : Fin 16} :
    p.tagOutstanding tag = true ↔ ∃ k, (look p.slots k).state ≠ .free ∧ (look p.slots k).tag = tag := by
  simp [IPort.tagOutstanding, mem_slotIdxs]

theorem badFormat_iff : badFormat r = true ↔ r.len = 0 ∨ 64 < r.addr.toNat % 64 + r.len := by
  simp [badFormat]

/-- A ready port has a slot for the request that it takes (R67). -/
theorem freeSlot_of_ready {p : IPort} (h : p.ready = true) : ∃ k, p.freeSlot = some k := by
  obtain ⟨_, _, _, k, hk⟩ := ready_iff.1 h
  exact Option.isSome_iff_exists.1 (List.find?_isSome.2 ⟨k, mem_slotIdxs k, decide_eq_true hk⟩)

theorem acceptRequest_notReady (h : (s.port i).ready = false) : acceptRequest i r s = s := by
  simp only [acceptRequest, h]; rfl

theorem acceptRequest_outstanding (h : (s.port i).ready = true) (ht : (s.port i).tagOutstanding r.tag = true) :
    acceptRequest i r s = refuseTag i r s := by
  simp only [acceptRequest, h, ht]; rfl

theorem acceptRequest_filled (h : (s.port i).ready = true) (ht : (s.port i).tagOutstanding r.tag = false)
    (hk : (s.port i).freeSlot = some k) :
    acceptRequest i r s =
      if badFormat r then raise (.decode i) (takeAnswer i k .decodeErr (fillSlot i k r s))
      else resolveSlot i k (fillSlot i k r s) := by
  simp only [acceptRequest, h, ht, hk]; rfl

theorem fillSlot_slot : (fillSlot i k r s).slot i k =
    ⟨.held, (s.port i).nextPos, r.tag, r.dir, r.addr, r.len, r.data, none, false, none, [], none, none⟩ := by
  rw [State.slot, fillSlot, State.modPort_port_self, look_upd_self]; rfl

/-- A request of bad format is answered in the slot that it took (R69). -/
theorem takeAnswer_fillSlot (c : RespCode) : takeAnswer i k c (fillSlot i k r s) = s.modPort i fun p =>
    { p with
      slots := upd p.slots k
        ⟨.issued, p.nextPos, r.tag, r.dir, r.addr, r.len, r.data, none, false, none, [], none, some c⟩
      nextPos := p.nextPos + 1, answers := p.answers ++ [.slot k] } := by
  rw [takeAnswer_eq, fillSlot_slot, fillSlot, modPort_modPort]
  simp [State.modPort]

/-- Settles O21, by the port's readiness, the tag and the format. -/
theorem requestIsTakenRefusedOrResolved : Obligations.RequestIsTakenRefusedOrResolved := by
  refine ⟨fun i r s => ⟨?_, fun hready => congrArg _ (acceptRequest_notReady hready)⟩, fun i r s hready htag => ?_,
    fun i r s hready hfresh => ?_⟩
  · rw [ready_iff]
    exact ⟨fun ⟨hst, hcol, hres, hfree⟩ => ⟨hfree, hcol, hres, hst⟩,
      fun ⟨hfree, hcol, hres, hst⟩ => ⟨hst, hcol, hres, hfree⟩⟩
  · exact congrArg _ (acceptRequest_outstanding hready (tagOutstanding_iff.2 htag))
  · have htag : (s.port i).tagOutstanding r.tag = false :=
      Bool.eq_false_iff.2 fun h => by
        obtain ⟨k, huse, heq⟩ := tagOutstanding_iff.1 h
        exact hfresh k huse heq
    obtain ⟨k, hk⟩ := freeSlot_of_ready hready
    have haccept := acceptRequest_filled hready htag hk
    refine ⟨k, freeSlot_some hk, fun hbad => congrArg Host.Outcome.next ?_, fun hgood => congrArg Host.Outcome.next ?_⟩
    · rw [haccept, if_pos (badFormat_iff.2 hbad), takeAnswer_fillSlot]
    · rw [haccept, if_neg fun h => hgood (badFormat_iff.1 h)]; rfl

end Sys2Proof.Machine
end

section
/-! SUPPORT. A leg's result at its slot: what is recorded, and what the last result does (R74, R75, R80). -/

namespace Sys2Proof.Machine

variable {s : State} {i : Fin 4} {k : Fin 8}

theorem allFinished_iff {ls : List Leg} :
    ls.all Leg.finished = true ↔ ∀ l ∈ ls, l.status = .ok ∨ l.status = .error := by
  simp [Leg.finished]

/-- The answer is TARGET-ERR exactly when a leg ended in ERROR (R75). -/
theorem legsAnswer_eq (ls : List Leg) :
    legsAnswer ls = if ∃ l ∈ ls, l.status = .error then .targetErr else .done := by
  simp [legsAnswer]

/-- A port wakes when nothing keeps it in RESETTING (R81). -/
theorem wakeFromReset_eq (p : IPort) :
    p.wakeFromReset =
      if p.state = .resetting ∧ p.irst = false ∧ ∀ k, (look p.slots k).state = .free then
        ⟨.active, false, p.slots, 0, Vector.replicate 4 [], [], none, []⟩
      else p := by
  unfold IPort.wakeFromReset
  simp only [allFree_iff]
  split
  · next h => rw [h.2.1]
  · rfl

/-- The slot when a leg's result has been recorded (R74, R80). -/
def Slot.withResult (r : LegRole) (code : TargetCode) (data : List Byte) (sl : Slot) : Slot :=
  sl.recorded r (if code = .ok then .ok else .error)
    (if r = .read ∧ code = .ok ∧ sl.state ≠ .orphaned then some data else sl.readData)

/-- Only a DESTINATION leg is reported to the engine (R74). -/
theorem reportMirror_of_ne {r : LegRole} (h : r ≠ .destination) : reportMirror i k r s = s := by
  cases r with
  | destination => exact absurd rfl h
  | read => rfl
  | write => rfl
  | mirror => rfl

/-- A result that is not reported to the engine is recorded, and its slot finished if it was the last (R74). -/
theorem legResult_eq {r : LegRole} {code : TargetCode} (h : r ≠ .destination ∨ code = .ok) (data : List Byte) :
    legResult i k r code data s = finishSlot i k (s.modSlot i k (Slot.withResult r code data)) := by
  cases code with
  | ok => rfl
  | error => exact congrArg (finishSlot i k) (reportMirror_of_ne (h.resolve_right nofun))

theorem finishSlot_unfinished (h : ¬∀ l ∈ (s.slot i k).legs, l.status = .ok ∨ l.status = .error) :
    finishSlot i k s = s :=
  if_neg fun hall => h (allFinished_iff.1 hall)

theorem finishSlot_issued (h : ∀ l ∈ (s.slot i k).legs, l.status = .ok ∨ l.status = .error)
    (hs : (s.slot i k).state = .issued) : finishSlot i k s = formResponse i k (legsAnswer (s.slot i k).legs) s := by
  simp only [finishSlot, allFinished_iff.2 h, hs]; rfl

theorem finishSlot_orphaned (h : ∀ l ∈ (s.slot i k).legs, l.status = .ok ∨ l.status = .error)
    (hs : (s.slot i k).state = .orphaned) : finishSlot i k s = freeOrphan i k s := by
  simp only [finishSlot, allFinished_iff.2 h, hs]; rfl

/-- A response formed in a slot that has just changed (R75). -/
theorem formResponse_modSlot (code : RespCode) (f : Slot → Slot) :
    formResponse i k code (s.modSlot i k f) = s.modPort i fun p =>
      { p with
        slots := upd p.slots k { f (s.slot i k) with state := .issued, response := some code }
        answers := p.answers ++ [.slot k] } := by
  rw [formResponse, State.modSlot, modPort_modPort]
  simp [State.modPort, State.slot]

/-- An orphan that has just changed is freed, and uncounted as it then is (R80, R81). -/
theorem freeOrphan_modSlot (f : Slot → Slot) :
    freeOrphan i k (s.modSlot i k f) = uncountIf (f (s.slot i k)).counted
      (s.modPort i fun p => IPort.wakeFromReset { p with slots := upd p.slots k Slot.blank }) := by
  rw [freeOrphan, State.modSlot_slot_self, State.modSlot, modPort_modPort]
  simp [State.modPort]

/-- Settles O26, by whether a leg is unfinished and by the state of the slot. -/
theorem legResultFinishesTheSlot : Obligations.LegResultFinishesTheSlot := by
  intro i k r code data s hrep sl done s1
  have hresult : legResult i k r code data s = finishSlot i k s1 := legResult_eq hrep data
  have hslot : s1.slot i k = done := State.modSlot_slot_self ..
  have hstate : (s1.slot i k).state = done.state := congrArg Slot.state hslot
  rw [hresult]
  refine ⟨fun hunfinished => ?_, fun hfin => ⟨fun hs => ?_, fun hs => ?_⟩⟩
  · exact finishSlot_unfinished (hslot ▸ hunfinished)
  · have hissued : done.state = .issued := hs
    rw [finishSlot_issued (hslot ▸ hfin) (hstate.trans hs), hslot, formResponse_modSlot, legsAnswer_eq, ← hissued]
  · rw [finishSlot_orphaned (hslot ▸ hfin) (hstate.trans hs), freeOrphan_modSlot]
    simp only [wakeFromReset_eq]
    rfl

end Sys2Proof.Machine
end

section
/-! SUPPORT. A grant of the arbiter: who presents, what the requester hands over, and where the request goes (R88, R89,
R97). -/

namespace Sys2Proof.Machine

variable {s : State} {t : Fin 4}

theorem modTPort_modTPort (t : Fin 4) (f g : TPort → TPort) : (s.modTPort t f).modTPort t g = s.modTPort t (g ∘ f) := by
  simp [State.modTPort, State.tport]

theorem presents_ip {i : Fin 4} : presents s t (.ip i) = true ↔ look (s.port i).legQueues t ≠ [] := by
  simp [presents]

theorem presents_meng : presents s t .meng = true ↔ ∃ b, mengRequest s t = some b :=
  Option.isSome_iff_exists

theorem canTake_iff {p : TPort} : p.canTake = true ↔ p.state = .offline ∨ p.queue.length < 16 := by
  simp [TPort.canTake]

theorem not_canTake {p : TPort} (hst : p.state = .online) (hfull : 16 ≤ p.queue.length) : p.canTake = false :=
  Bool.eq_false_iff.2 fun h => (canTake_iff.1 h).elim (fun ho => nomatch hst.symm.trans ho) (by omega)

/-- The port has granted requester `r` (R88). -/
def State.grantedTo (s : State) (t : Fin 4) (r : Requester) : State := s.modTPort t fun p => { p with lastGranted := r }

theorem grant_full (h : (s.tport t).canTake = false) : grant t s = s := by
  simp only [grant, h]; rfl

theorem grant_idle (h : (s.tport t).lastGranted.turnAfter.find? (presents s t) = none) : grant t s = s := by
  simp only [grant, h, ite_self]

/-- A grant hands the request of the first presenting requester over to the port (R89). -/
theorem grant_handOver {r : Requester} {u : State} {b : ReqBody} {o : Owner} (hcan : (s.tport t).canTake = true)
    (hfind : (s.tport t).lastGranted.turnAfter.find? (presents s t) = some r)
    (hand : handOver t r (s.grantedTo t r) = (u, some (b, o))) : grant t s = takeGrant t b o u := by
  rw [State.grantedTo] at hand
  simp only [grant, hcan, hfind, hand]; rfl

/-- The head leg of a leg queue is handed over: it has left the queue, and is GRANTED (R89 steps 2 and 4). -/
theorem handOver_ip {i : Fin 4} {ref : LegRef} {rest : List LegRef} {l : Leg}
    (hq : look (s.port i).legQueues t = ref :: rest)
    (hl : (s.slot i ref.slot).legs.find? (fun l => decide (l.role = ref.role)) = some l) :
    handOver t (.ip i) s = (s.modPort i (IPort.granting t ref rest),
      some (legBody (s.slot i ref.slot) l, .leg i ref.slot ref.role)) := by
  simp only [handOver, hq, hl]; rfl

theorem handOver_meng {b : ReqBody} (hb : mengRequest s t = some b) :
    handOver t .meng s = (mengGranted s, some (b, .meng)) := by
  simp only [handOver, hb]

/-- The slot of a granted leg is ISSUED when no other leg waits (R72, R73). -/
theorem grantLeg_eq (r : LegRole) (sl : Slot) :
    sl.grantLeg r =
      { sl with
        legs := setLegStatus r .granted sl.legs
        state := if ∃ l ∈ setLegStatus r .granted sl.legs, l.status = .ungranted then sl.state else .issued } := by
  simp [Slot.grantLeg]

/-- The record of a port ONLINE that has just granted `r` (R84, R89, R92). -/
theorem push_grantedTo (p : TPort) (r : Requester) (field : Nat) (b : ReqBody) (o : Owner) :
    TPort.push { p with lastGranted := r } field b o =
      { p with
        lastGranted := r, queue := p.queue ++ [⟨b, p.nextNum, o, false⟩], nextNum := p.nextNum + 1
        timer := if p.queue ≠ [] then p.timer else if field = 0 then none else some (10 * field) } := by
  cases hq : p.queue <;> simp [TPort.push, loadTimer]

/-- A granted request joins the queue of a port ONLINE; OFFLINE its owner has ERROR at once (R89, R97). -/
theorem takeGrant_grantedTo (r : Requester) (b : ReqBody) (o : Owner) (v : State) :
    takeGrant t b o (v.grantedTo t r) =
      if (v.tport t).state = .online then
        v.modTPort t fun p =>
          { p with
            lastGranted := r, queue := p.queue ++ [⟨b, p.nextNum, o, false⟩], nextNum := p.nextNum + 1
            timer := if p.queue ≠ [] then p.timer else if timeoutOf v.mgmt.tgtTimeout t = 0 then none
              else some (10 * timeoutOf v.mgmt.tgtTimeout t) }
      else ownerResult o .error [] (raise (.target t) (v.grantedTo t r)) := by
  have hstate : ((v.grantedTo t r).tport t).state = (v.tport t).state := by
    rw [State.grantedTo, State.modTPort_tport_self]
  unfold takeGrant
  rw [hstate]
  cases (v.tport t).state with
  | online =>
    rw [if_pos rfl, State.grantedTo, State.modTPort_mgmt, modTPort_modTPort]
    exact congrArg (v.modTPort t) (funext fun p => push_grantedTo p r _ b o)
  | offline => rw [if_neg nofun]

/-- Settles O29: what the chosen requester hands over, and what the port makes of it. -/
theorem grantServesTheNextRequester : Obligations.GrantServesTheNextRequester := by
  refine ⟨⟨rfl, rfl, rfl, rfl, rfl⟩, fun t s => ⟨fun i => presents_ip, presents_meng⟩, fun t s => ?_⟩
  refine ⟨fun h => congrArg Host.Outcome.next ?_, fun hcan =>
    ⟨fun i ref rest l hfind hq hl => congrArg Host.Outcome.next ?_, fun b hfind hb => congrArg Host.Outcome.next ?_⟩⟩
  · rcases h with ⟨hst, hfull⟩ | hnone
    · exact grant_full (not_canTake hst hfull)
    · exact grant_idle hnone
  · have hgrant := grant_handOver (canTake_iff.2 hcan) hfind (handOver_ip (s := s.grantedTo t (.ip i)) hq hl)
    have hport : s.modPort i (IPort.granting t ref rest) = s.modPort i fun p =>
        { p with
          legQueues := upd p.legQueues t rest
          slots := upd p.slots ref.slot ((s.slot i ref.slot).grantLeg ref.role) } := rfl
    rw [grantLeg_eq] at hport
    rw [← hport]
    exact hgrant.trans (takeGrant_grantedTo (.ip i) _ _ (s.modPort i (IPort.granting t ref rest)))
  · have hgrant := grant_handOver (canTake_iff.2 hcan) hfind (handOver_meng (s := s.grantedTo t .meng) hb)
    exact hgrant.trans (takeGrant_grantedTo .meng _ _ (mengGranted s))

end Sys2Proof.Machine
end

section
/-! SUPPORT. RESTORE TARGET and the end of its interval: what the command does at each port, and what the part shows when
the interval is over (R98, R99). -/

namespace Sys2Proof.Machine

variable {s : State} {p : Fin 4}

/-- A target number above 3 is refused RANGE (R98). -/
theorem restoreTargetAct_range (h : 3 < bits (look s.mgmt.latched 0) 0 8) : restoreTargetAct s = refuse .range s := by
  rw [restoreTargetAct, dif_neg (Nat.not_lt.2 h)]

/-- A port ONLINE is refused STATE (R98). -/
theorem restoreTargetAct_online (hp : bits (look s.mgmt.latched 0) 0 8 = p.val) (hst : (s.tport p).state = .online) :
    restoreTargetAct s = refuse .state s := by
  obtain ⟨_, hlt⟩ := p
  subst hp
  rw [restoreTargetAct, dif_pos hlt, if_pos hst]

/-- At a port OFFLINE the restore interval begins, and the command goes on (R98). -/
theorem restoreTargetAct_offline (hp : bits (look s.mgmt.latched 0) 0 8 = p.val) (hst : (s.tport p).state = .offline) :
    restoreTargetAct s = (s.modTPort p fun x => { x with restoring := some 16 }, none) := by
  obtain ⟨_, hlt⟩ := p
  subst hp
  rw [restoreTargetAct, dif_pos hlt, if_neg (by rw [hst]; nofun)]

/-- RESTORE TARGET is refused, or begins the restore interval of a port OFFLINE (R98). -/
theorem restoreTargetAct_cases (s : State) :
    (∃ r, restoreTargetAct s = refuse r s) ∨
      ∃ p, (s.tport p).state = .offline ∧
        restoreTargetAct s = (s.modTPort p fun x => { x with restoring := some 16 }, none) := by
  by_cases h : bits (look s.mgmt.latched 0) 0 8 < 4
  · cases hst : (s.tport ⟨_, h⟩).state with
    | online => exact .inl ⟨_, restoreTargetAct_online rfl hst⟩
    | offline => exact .inr ⟨_, hst, restoreTargetAct_offline rfl hst⟩
  · exact .inl ⟨_, restoreTargetAct_range (Nat.not_lt.1 h)⟩

/-- A command that its owner does not end stays in progress (R98, R169). -/
theorem writeCommand_goesOn {code : BitVec 8} {act : Action} {t : State} (hb : s.mgmt.busy = false)
    (ha : act (latchCommand code s) = (t, none)) : writeCommand code act s = t := by
  simp only [writeCommand, hb, ha, Bool.false_eq_true, if_false]

/-- The record of a port whose restore interval has ended (R99). -/
def TPort.restored (x : TPort) : TPort :=
  { x with state := .online, restoring := none, queue := [], nextNum := 0, timer := none }

/-- The interval of a restoring port ends with the command (R99). -/
theorem endRestore_restoring (h : (s.tport p).restoring.isSome = true) :
    endRestore p s = endCommand (.done []) (s.modTPort p TPort.restored) := if_pos h

theorem endRestore_idle (h : ¬(s.tport p).restoring.isSome = true) : endRestore p s = s := if_neg h

/-- TRST_N of a port is low while the port is restoring (R98). -/
theorem trstN_restoring (h : (s.tport p).restoring.isSome = true) : s.trstN p = false := by
  rw [State.trstN, Option.isNone_eq_false_iff.2 h, Bool.and_false]

/-- Settles O34, from what RESTORE TARGET does at each target number and what the end of the interval leaves. -/
theorem restoreBringsThePortOnline : Obligations.RestoreBringsThePortOnline := by
  refine ⟨fun s hb => ⟨fun hrange => ?_, fun p hp => ⟨fun hst => ?_, fun hst => ?_⟩⟩, fun p s hr ha => ?_⟩
  · exact congrArg Host.Outcome.next (writeCommand_refused hb (restoreTargetAct_range hrange))
  · exact congrArg Host.Outcome.next (writeCommand_refused hb (restoreTargetAct_online (p := p) hp hst))
  · have hact := restoreTargetAct_offline (s := latchCommand 0x0F s) (p := p) hp hst
    refine ⟨_, congrArg Host.Outcome.next (writeCommand_goesOn hb hact), rfl, rfl, trstN_restoring ?_⟩
    rw [State.modTPort_tport_self]; rfl
  · have hport : (endCommand (.done []) (s.modTPort p TPort.restored)).tport p = (s.tport p).restored := by
      rw [endCommand_tport, State.modTPort_tport_self]
    refine ⟨_, congrArg Host.Outcome.next (endRestore_restoring hr), hport, ?_, ?_, rfl, isPending_raise_self _ _⟩
    · rw [State.trstN, hport]
      show (!s.resetAsserted && true) = true
      rw [ha]; rfl
    · rw [hport]; rfl

end Sys2Proof.Machine
end

section
/-! SUPPORT. The commands, and so every step, keep the Target Ports' records lawful (R83, R84, R92, R96), and CMD_BUSY
set exactly while one port is restoring (R98, R169). -/

namespace Sys2Proof.Machine

variable {s t u : State} {p : Fin 4}

/-! ## Which ports are restoring -/

/-- The same ports are restoring in two states, with the same CMD_BUSY. -/
def SameRestoring (s t : State) : Prop :=
  t.mgmt.busy = s.mgmt.busy ∧ ∀ p, (t.tport p).restoring.isSome = (s.tport p).restoring.isSome

theorem SameRestoring.refl : SameRestoring s s := ⟨rfl, fun _ => rfl⟩

theorem SameRestoring.trans (h : SameRestoring s t) (k : SameRestoring t u) : SameRestoring s u :=
  ⟨k.1.trans h.1, fun p => (k.2 p).trans (h.2 p)⟩

theorem SameRestoring.of_tports (ht : t.tports = s.tports) (hb : t.mgmt.busy = s.mgmt.busy) : SameRestoring s t :=
  ⟨hb, fun p => by rw [State.tport, ht]; rfl⟩

theorem SameSurround.restoring (h : SameSurround s t) : SameRestoring s t :=
  .of_tports h.1 (congrArg Mgmt.busy h.2.1)

theorem BusyIsRestoring.of_same (h : BusyIsRestoring s) (hk : SameRestoring s t) : BusyIsRestoring t := by
  simpa only [BusyIsRestoring, hk.1, hk.2] using h

/-- One port's record changes, but not whether it restores. -/
theorem sameRestoring_put {x : TPort} (ht : t.tports = upd s.tports p x) (hb : t.mgmt.busy = s.mgmt.busy)
    (hx : x.restoring.isSome = (s.tport p).restoring.isSome) : SameRestoring s t :=
  ⟨hb, fun q => by
    rw [State.tport, ht, look_upd]
    split
    · next hq => subst hq; exact hx
    · rfl⟩

theorem sameRestoring_modTPort (p : Fin 4) {f : TPort → TPort} (hf : ∀ x, (f x).restoring = x.restoring) :
    SameRestoring s (s.modTPort p f) := sameRestoring_put rfl rfl (congrArg Option.isSome (hf _))

/-- A port that enters OFFLINE goes on restoring, or not restoring (R96). -/
theorem sameRestoring_enterOffline (p : Fin 4) : SameRestoring s (enterOffline p s) :=
  sameRestoring_put (enterOffline_tports p) (congrArg Mgmt.busy (window_enterOffline p).1) rfl

theorem sameRestoring_expireTimer (p : Fin 4) : SameRestoring s (expireTimer p s) := by
  unfold expireTimer
  split
  · exact sameRestoring_enterOffline p
  · exact .refl

theorem sameRestoring_targetAnswers (p : Fin 4) (num : BitVec 4) (code : TargetCode) (data : List Byte) :
    SameRestoring s (targetAnswers p num code data s) := by
  unfold targetAnswers
  split
  · exact .refl
  · split
    · exact sameRestoring_enterOffline p
    · dsimp only
      split
      · refine SameRestoring.trans ?_ (surround_ownerResult _ _ _).restoring
        cases code
        · exact sameRestoring_put (p := p) rfl rfl rfl
        · exact sameRestoring_put (p := p) rfl rfl rfl
      · exact sameRestoring_enterOffline p

theorem sameRestoring_takeGrant (b : ReqBody) (o : Owner) : SameRestoring s (takeGrant p b o s) := by
  unfold takeGrant
  split
  · exact sameRestoring_modTPort p fun _ => rfl
  · exact SameRestoring.trans (.of_tports rfl rfl) (surround_ownerResult _ _ _).restoring

theorem sameRestoring_grant (p : Fin 4) : SameRestoring s (grant p s) := by
  unfold grant
  split
  · exact .refl
  · split
    · exact .refl
    · next r _ =>
      have hmark : SameRestoring s (s.modTPort p fun x => { x with lastGranted := r }) := sameRestoring_modTPort p fun _ => rfl
      have hover := hmark.trans (surround_handOver p r).restoring
      split
      · next he => rw [he] at hover; exact hover.trans (sameRestoring_takeGrant _ _)
      · next he => rw [he] at hover; exact hover

theorem sameRestoring_writeTimeouts (v : Word) : SameRestoring s (writeTimeouts v s) := by
  refine ⟨rfl, fun p => ?_⟩
  rw [State.tport, writeTimeouts, look_tabulate]
  split
  · rfl
  · dsimp only; split <;> rfl

theorem sameRestoring_countAll : SameRestoring s (countAll s) := by
  refine ⟨rfl, fun p => ?_⟩
  rw [show (countAll s).tport p = _ from look_vmap ..]
  exact Option.isSome_map

/-- A port begins to restore while no other does, and the command is in progress (R98). -/
theorem busyIsRestoring_begun (h : BusyIsRestoring s) (hb : s.mgmt.busy = false) (code : BitVec 8) (p : Fin 4) :
    BusyIsRestoring ((latchCommand code s).modTPort p fun x => { x with restoring := some 16 }) := by
  have hnone (q : Fin 4) : ¬(s.tport q).restoring.isSome = true := fun hq => by
    rw [h.1.2 ⟨q, hq⟩] at hb; cases hb
  have honly (q : Fin 4) :
      (((latchCommand code s).modTPort p fun x => { x with restoring := some 16 }).tport q).restoring.isSome = true ↔
        q = p := by
    rw [State.modTPort_tport]
    split
    · next hq => exact iff_of_true rfl hq
    · next hq => exact iff_of_false (hnone q) hq
  exact ⟨iff_of_true rfl ⟨p, (honly p).2 rfl⟩, fun q r hq hr => ((honly q).1 hq).trans ((honly r).1 hr).symm⟩

/-- The one port that restores has its interval ended, and the command with it (R99). -/
theorem busyIsRestoring_endRestore (h : BusyIsRestoring s) (p : Fin 4) : BusyIsRestoring (endRestore p s) := by
  by_cases hp : (s.tport p).restoring.isSome = true
  · rw [endRestore_restoring hp]
    have hnone (q : Fin 4) :
        ¬((endCommand (.done []) (s.modTPort p TPort.restored)).tport q).restoring.isSome = true := by
      rw [endCommand_tport, State.modTPort_tport]
      split
      · nofun
      · next hq => exact fun hr => hq (h.2 q p hr hp)
    exact ⟨iff_of_false nofun fun ⟨q, hq⟩ => hnone q hq, fun q _ hq => absurd hq (hnone q)⟩
  · rw [endRestore_idle hp]; exact h

/-! ## What an operation keeps -/

/-- An operation keeps the Target Ports' records lawful, and CMD_BUSY in step with the restore intervals. -/
structure TargetsKept (s t : State) : Prop where
  fit  : TargetPortsFit s → TargetPortsFit t
  busy : BusyIsRestoring s → BusyIsRestoring t

theorem TargetsKept.refl : TargetsKept s s := ⟨id, id⟩

theorem TargetsKept.trans (h : TargetsKept s t) (k : TargetsKept t u) : TargetsKept s u :=
  ⟨k.fit ∘ h.fit, k.busy ∘ h.busy⟩

theorem TargetsKept.of_tports (ht : t.tports = s.tports) (hb : t.mgmt.busy = s.mgmt.busy) : TargetsKept s t :=
  ⟨fun h => h.of_tports ht, fun h => h.of_same (.of_tports ht hb)⟩

theorem SameSurround.targets (h : SameSurround s t) : TargetsKept s t := .of_tports h.1 (congrArg Mgmt.busy h.2.1)

theorem SameButArrivals.targets (h : SameButArrivals s t) : TargetsKept s t := .of_tports h.1 (congrArg Mgmt.busy h.2.1)

theorem targetsKept_expireTimer (p : Fin 4) : TargetsKept s (expireTimer p s) :=
  ⟨fun h => targetPortsFit_expireTimer h p, fun h => h.of_same (sameRestoring_expireTimer p)⟩

theorem targetsKept_endRestore (p : Fin 4) : TargetsKept s (endRestore p s) :=
  ⟨fun h => targetPortsFit_endRestore h p, fun h => busyIsRestoring_endRestore h p⟩

theorem targetsKept_writeTimeouts (v : Word) : TargetsKept s (writeTimeouts v s) :=
  ⟨fun h => targetPortsFit_writeTimeouts h v, fun h => h.of_same (sameRestoring_writeTimeouts v)⟩

/-! ## Commands at the Management Port -/

/-- What an owning block does with a command leaves the Target Ports alone and ends the command, all but RESTORE
TARGET. -/
def EndsOffTargets (act : Action) : Prop := ∀ s, ∃ t e, act s = (t, some e) ∧ t.tports = s.tports

/-- A command that ends as it is taken leaves CMD_BUSY as it was (R169). -/
theorem EndsOffTargets.kept {act : Action} (h : EndsOffTargets act) (code : BitVec 8) :
    TargetsKept s (writeCommand code act s) := by
  rcases writeCommand_cases s code act with hw | ⟨hb, hw⟩
  · rw [hw]; exact .of_tports rfl rfl
  · obtain ⟨t, e, ha, ht⟩ := h (latchCommand code s)
    rw [writeCommand_taken s hb ha]
    exact .of_tports ht hb.symm

/-- RESTORE TARGET is refused, or goes on with one port restoring (R98). -/
theorem targetsKept_restoreTarget (code : BitVec 8) : TargetsKept s (writeCommand code restoreTargetAct s) := by
  rcases writeCommand_cases s code restoreTargetAct with hw | ⟨hb, hw⟩
  · rw [hw]; exact .of_tports rfl rfl
  · rcases restoreTargetAct_cases (latchCommand code s) with ⟨r, ha⟩ | ⟨p, hst, ha⟩
    · rw [writeCommand_taken s hb ha]; exact .of_tports rfl hb.symm
    · rw [writeCommand_goesOn hb ha]
      refine ⟨fun h => h.put (restoring_fits (h p) fun hon => ?_) rfl, fun h => busyIsRestoring_begun h hb code p⟩
      rw [latchCommand_tport, hon] at hst; cases hst

/-- A command that is refused, reports or finishes ends (R170). -/
theorem endsOff_refuse (r : Reason) (s : State) : ∃ t e, refuse r s = (t, some e) ∧ t.tports = s.tports :=
  ⟨s, _, rfl, rfl⟩

theorem endsOff_ends (e : CmdEnd) (ht : t.tports = s.tports) : ∃ u e', ends e t = (u, some e') ∧ u.tports = s.tports :=
  ⟨t, e, rfl, ht⟩

theorem endsOff_finished (ht : t.tports = s.tports) : ∃ u e, finished t = (u, some e) ∧ u.tports = s.tports :=
  endsOff_ends (.done []) ht

theorem endsOff_withIndex {n : Nat} {act : DescIdx → Action} (h : ∀ d, EndsOffTargets (act d)) :
    EndsOffTargets (withIndex n act) := fun s => by
  unfold withIndex
  split
  · exact h _ s
  · exact endsOff_refuse _ s

theorem endsOff_withMonitor {n : Nat} {act : Fin 16 → Action} (h : ∀ m, EndsOffTargets (act m)) :
    EndsOffTargets (withMonitor n act) := fun s => by
  unfold withMonitor
  split
  · exact h _ s
  · exact endsOff_refuse _ s

theorem endsOff_stageAct : EndsOffTargets stageAct := fun s => by
  refine endsOff_withIndex (fun d s => ?_) s
  split
  · exact endsOff_refuse _ s
  · split
    · exact endsOff_refuse _ s
    · split
      · exact endsOff_refuse _ s
      · exact endsOff_finished rfl

theorem endsOff_activateAct : EndsOffTargets activateAct := fun s => by
  refine endsOff_withIndex (fun d s => ?_) s
  split
  · exact endsOff_refuse _ s
  · exact endsOff_finished rfl

theorem endsOff_modifyAct : EndsOffTargets modifyAct := fun s => by
  refine endsOff_withIndex (fun d s => ?_) s
  split
  · exact endsOff_refuse _ s
  · split
    · exact endsOff_refuse _ s
    · split
      · exact endsOff_refuse _ s
      · split
        · exact endsOff_refuse _ s
        · exact endsOff_finished (SameSurround.trans (surround_modDesc d _) (surround_startSwitch d)).1

theorem endsOff_retireAct : EndsOffTargets retireAct := fun s => by
  refine endsOff_withIndex (fun d s => ?_) s
  have hwithdrawn : (withdraw d (finishMonitorsOn d s)).tports = s.tports :=
    ((surround_finishAll _).trans surround_withdraw).1
  split
  · exact endsOff_refuse _ s
  · split
    · exact endsOff_refuse _ s
    · exact endsOff_refuse _ s
    · exact endsOff_finished rfl
    · exact endsOff_finished hwithdrawn
    · exact endsOff_finished hwithdrawn

theorem endsOff_readDescriptorAct : EndsOffTargets readDescriptorAct := fun s =>
  endsOff_withIndex (fun _ _ => endsOff_ends _ rfl) s

theorem endsOff_probeAct : EndsOffTargets probeAct := fun s => by
  unfold probeAct
  dsimp only
  split
  · exact endsOff_refuse _ s
  · split
    · split
      · exact endsOff_refuse _ s
      · exact endsOff_ends _ rfl
    · exact endsOff_refuse _ s

theorem endsOff_queueMigrationAct : EndsOffTargets queueMigrationAct := fun s => by
  unfold queueMigrationAct
  split
  · exact endsOff_refuse _ s
  · split
    · split
      · exact endsOff_refuse _ s
      · exact endsOff_ends _ (surround_enqueueAtOnce _ _ _).1
    · exact endsOff_refuse _ s

theorem endsOff_cancelJobAct : EndsOffTargets cancelJobAct := fun s => by
  unfold cancelJobAct
  dsimp only
  split
  · exact endsOff_refuse _ s
  · split
    · exact endsOff_finished (endQueued_tports ..)
    · split
      · exact endsOff_refuse _ s
      · split
        · exact endsOff_refuse _ s
        · exact endsOff_finished (endActive_tports ..)

theorem endsOff_queryJobAct : EndsOffTargets queryJobAct := fun s => by
  unfold queryJobAct
  dsimp only
  split
  · exact endsOff_refuse _ s
  · split
    · exact endsOff_ends _ rfl
    · split
      · exact endsOff_refuse _ s
      · exact endsOff_ends _ rfl

theorem endsOff_haltEngineAct : EndsOffTargets haltEngineAct := fun s => by
  unfold haltEngineAct
  split
  · exact endsOff_refuse _ s
  · exact endsOff_finished rfl

/-- A HALTED engine that goes on leaves everything outside the map, the engine and the held slots (R115). -/
theorem surround_resumeEngine : SameSurround s (resumeEngine s) := by
  unfold resumeEngine
  split
  · exact SameSurround.trans (surround_modEng _) surround_activateAtOnce
  · split
    · dsimp only
      split
      · exact SameSurround.trans (surround_modEng _) surround_enterCutover
      · exact surround_modEng _
    · exact SameSurround.trans (surround_modEng _) surround_beginJob

theorem endsOff_resumeEngineAct : EndsOffTargets resumeEngineAct := fun s => by
  unfold resumeEngineAct
  split
  · exact endsOff_finished surround_resumeEngine.1
  · exact endsOff_refuse _ s

theorem endsOff_setMonitorAct : EndsOffTargets setMonitorAct := fun s => by
  refine endsOff_withMonitor (fun m s => ?_) s
  split
  · exact endsOff_refuse _ s
  · split
    · split
      · exact endsOff_refuse _ s
      · split
        · exact endsOff_refuse _ s
        · exact endsOff_finished rfl
    · exact endsOff_refuse _ s

theorem endsOff_stopMonitorAct : EndsOffTargets stopMonitorAct := fun s => by
  refine endsOff_withMonitor (fun m s => ?_) s
  split
  · exact endsOff_refuse _ s
  · exact endsOff_finished (SameSurround.trans (surround_finishAsks m) (surround_modMon m _)).1

theorem endsOff_readMonitorAct : EndsOffTargets readMonitorAct := fun s =>
  endsOff_withMonitor (fun _ _ => endsOff_ends _ rfl) s

theorem endsOff_restartAct : EndsOffTargets restartAct := fun s =>
  endsOff_finished ((surround_finishAll (s := s) fun _ => true).trans surround_restartEngine).1

/-- A COMMAND write, whatever the code, keeps the Target Ports lawful and CMD_BUSY in step (R169, R173). -/
theorem targetsKept_command (code : BitVec 8) : TargetsKept s (writeCommand code (actionOf code) s) := by
  generalize hact : actionOf code = act
  unfold actionOf at hact
  split at hact <;> subst hact
  · exact endsOff_stageAct.kept code
  · exact endsOff_activateAct.kept code
  · exact endsOff_modifyAct.kept code
  · exact endsOff_retireAct.kept code
  · exact endsOff_readDescriptorAct.kept code
  · exact endsOff_probeAct.kept code
  · exact endsOff_queueMigrationAct.kept code
  · exact endsOff_cancelJobAct.kept code
  · exact endsOff_queryJobAct.kept code
  · exact endsOff_haltEngineAct.kept code
  · exact endsOff_resumeEngineAct.kept code
  · exact endsOff_setMonitorAct.kept code
  · exact endsOff_stopMonitorAct.kept code
  · exact endsOff_readMonitorAct.kept code
  · exact targetsKept_restoreTarget code
  · exact endsOff_restartAct.kept code
  · exact EndsOffTargets.kept (endsOff_refuse .unknown) code

theorem targetsKept_writeWindow (w : WindowWord) (v : Word) : TargetsKept s (writeWindow w v s) := by
  cases w with
  | command => exact targetsKept_command _
  | tgtTimeout => exact targetsKept_writeTimeouts v
  | ident => exact .refl
  | result => exact .refl
  | unnamed => exact .refl
  | status => exact .of_tports rfl rfl
  | param => exact .of_tports rfl rfl
  | eventPending => exact .of_tports rfl rfl
  | eventRoute => exact .of_tports rfl rfl
  | budget => exact .of_tports rfl rfl
  | retry => exact .of_tports rfl rfl

/-! ## Steps -/

/-- Every law of the Target Ports holds after power-on, whatever was before. -/
theorem targetsKept_of_lawful (h : Lawful t) : TargetsKept s t := by
  obtain ⟨⟨_, _, _, hfit, _⟩, _, _, _, _, hbusy, _⟩ := h
  exact ⟨fun _ => hfit, fun _ => hbusy⟩

theorem targetsKept_exec (c : Instr) (h : exec c s = .next t) : TargetsKept s t := by
  cases c <;> cases h
  case powerOnReset => exact targetsKept_of_lawful (lawful_of_powerOn rfl)
  case irstNAssert i => exact (surround_assertIrst i).targets
  case acceptRequest i r => exact (butArrivals_acceptRequest i r).targets
  case reResolution i => exact (butArrivals_reResolve i).targets
  case responseTaken i => exact (surround_takeResponse i).targets
  case arbiterGrant p => exact ⟨fun h => targetPortsFit_grant h p, fun h => h.of_same (sameRestoring_grant p)⟩
  case targetRequestTaken p =>
    exact ⟨fun h => h.modTPort (taken_fits (h p)), fun h => h.of_same (sameRestoring_modTPort p fun _ => rfl)⟩
  case targetResponse p n c d =>
    exact ⟨fun h => targetPortsFit_targetAnswers h p n c d, fun h => h.of_same (sameRestoring_targetAnswers p n c d)⟩
  case responseTimerExpiry p => exact targetsKept_expireTimer p
  case restoreEnd p => exact targetsKept_endRestore p
  case lineBegin => exact surround_beginLine.targets
  case jobActivate => exact surround_activateJob.targets
  case jobStart => exact surround_beginJob.targets
  case stage => exact targetsKept_command 0x01
  case activate => exact targetsKept_command 0x02
  case modify => exact targetsKept_command 0x03
  case retire => exact targetsKept_command 0x04
  case readDescriptor => exact targetsKept_command 0x05
  case probe => exact targetsKept_command 0x06
  case queueMigration => exact targetsKept_command 0x07
  case cancelJob => exact targetsKept_command 0x08
  case queryJob => exact targetsKept_command 0x09
  case haltEngine => exact targetsKept_command 0x0A
  case resumeEngine => exact targetsKept_command 0x0B
  case setMonitor => exact targetsKept_command 0x0C
  case stopMonitor => exact targetsKept_command 0x0D
  case readMonitor => exact targetsKept_command 0x0E
  case restoreTarget => exact targetsKept_command 0x0F
  case restart => exact targetsKept_command 0x10
  case unknownCommand v => exact targetsKept_writeWindow .command v
  case commandOverrun v => exact targetsKept_writeWindow .command v
  case tgtTimeoutWrite v => exact targetsKept_writeTimeouts v
  case registerWrite off v => exact targetsKept_writeWindow _ v
  case goIdle m =>
    split
    · exact TargetsKept.trans (t := { s with arrivals := s.arrivals.erase _ }) (.of_tports rfl rfl)
        (SameSurround.trans (surround_finishAsks m) (surround_goIdle m)).targets
    · exact .refl
  all_goals exact .of_tports rfl rfl

theorem targetsKept_takeEvent (e : PartEvent) : TargetsKept s (takeEvent e s) := by
  cases e with
  | activate => exact surround_activateJob.targets
  | start => exact surround_beginJob.targets
  | line => exact surround_beginLine.targets
  | ask m => exact (surround_takeAsk m).targets
  | arrive a =>
    exact TargetsKept.trans (t := { s with arrivals := s.arrivals.erase a }) (.of_tports rfl rfl)
      (surround_takeArrival a).targets

theorem targetsKept_expiry {f : State → State} (h : f ∈ expiries u) (s : State) : TargetsKept s (f s) := by
  simp only [expiries, List.mem_append, List.mem_map] at h
  rcases h with ((⟨p, _, rfl⟩ | ⟨p, _, rfl⟩) | h) | ⟨src, _, rfl⟩
  · exact targetsKept_expireTimer p
  · exact targetsKept_endRestore p
  · split at h
    · rw [List.mem_singleton.1 h]; exact .of_tports rfl rfl
    · cases h
  · exact .of_tports rfl rfl

/-- A microsecond passes: the counts fall, and the expiries act one after another (R92, R98). -/
theorem targetsKept_microsecond : TargetsKept s (microsecond s) :=
  List.foldlRecOn (motive := TargetsKept s) (expiries s) _
    ⟨targetPortsFit_countAll, fun h => h.of_same sameRestoring_countAll⟩
    fun v hv _ hf => hv.trans (targetsKept_expiry hf v)

theorem targetsKept_partStep : TargetsKept s (partStep s) := by
  rcases partStep_cases s with ⟨_, h⟩ | ⟨_, ⟨_, h⟩ | ⟨e, _, n, h⟩⟩ <;> rw [h]
  · exact .refl
  · exact targetsKept_microsecond
  · exact TargetsKept.trans (t := { s with freeDraws := n }) (.of_tports rfl rfl) (targetsKept_takeEvent e)

/-- Every step keeps the Target Ports lawful and CMD_BUSY in step with the restore intervals. -/
theorem targetsKept_step (h : step s = .next t) : TargetsKept s t := by
  unfold step at h
  split at h
  · cases h; exact targetsKept_partStep
  · next c rest _ =>
    exact TargetsKept.trans (t := { s with pending := rest }) (.of_tports rfl rfl) (targetsKept_exec c h)

/-- Settles O58: RESTORE TARGET alone goes on when it is taken, with one port restoring, until that port's interval
ends. -/
theorem targetPortsStayFit : Obligations.TargetPortsStayFit :=
  ⟨fun _ _ hs h => (targetsKept_step h).fit hs, fun _ _ hs h => (targetsKept_step h).busy hs⟩

end Sys2Proof.Machine
end

section
/-! SUPPORT. No result of a request, and nothing that follows from one, clears an event flag (R159): the results that
reach the owners as a port enters OFFLINE leave its own flags set. -/

namespace Sys2Proof.Machine

variable {s t u : State}

/-- Every class that is pending stays pending. -/
def FlagsStay (s t : State) : Prop := ∀ c, s.isPending c = true → t.isPending c = true

theorem FlagsStay.refl : FlagsStay s s := fun _ => id

theorem FlagsStay.trans (h : FlagsStay s t) (k : FlagsStay t u) : FlagsStay s u := fun c => k c ∘ h c

theorem FlagsStay.of_evc (h : t.evc = s.evc) : FlagsStay s t := fun c hc => by rw [State.isPending, h]; exact hc

/-- What leaves the Event Controller alone may come before. -/
theorem FlagsStay.after (k : FlagsStay t u) (h : t.evc = s.evc) : FlagsStay s u := (FlagsStay.of_evc h).trans k

theorem flagsStay_foldl {α : Type} (f : State → α → State) (h : ∀ s a, FlagsStay s (f s a)) :
    ∀ (l : List α) (s : State), FlagsStay s (l.foldl f s)
  | [], _ => .refl
  | a :: l, s => (h s a).trans (flagsStay_foldl f h l (f s a))

theorem flagsStay_raise (c : EventClass) : FlagsStay s (raise c s) := fun e he => by
  rw [raise_flag, he, Bool.true_or]

/-! ## The engine and the map -/

theorem flagsStay_endActive (e : Ending) : FlagsStay s (endActive e s) := by
  rcases hj : s.eng.active with _ | j
  · rw [endActive_none _ _ hj]; exact .refl
  · exact fun k hk => (endActive_isPending e hj k).2 (.inl hk)

theorem flagsStay_beginJob : FlagsStay s (beginJob s) := by
  rcases beginJob_cases s with h | ⟨r, h⟩ | ⟨j, _, _, _, h⟩ <;> rw [h]
  · exact .refl
  · exact flagsStay_endActive _
  · exact .of_evc rfl

theorem flagsStay_recheckStart (d : DescIdx) : FlagsStay s (recheckStart d s) := by
  rcases recheckStart_cases s d with h | ⟨_, h⟩ <;> rw [h]
  · exact .refl
  · exact flagsStay_beginJob

theorem flagsStay_switchDone (d : DescIdx) : FlagsStay s (switchDone d s) := by
  have hswitched (f : Desc → Desc) : FlagsStay s (raise .switched (s.modDesc d f)) :=
    (flagsStay_raise .switched).after rfl
  unfold switchDone
  dsimp only
  split
  · exact (hswitched _).trans (flagsStay_endActive _)
  · exact hswitched _

theorem flagsStay_completeSwitch (d : DescIdx) : FlagsStay s (completeSwitch d s) :=
  (flagsStay_switchDone d).trans ((flagsStay_recheckStart d).after (release_evc ..))

theorem flagsStay_startSwitch (d : DescIdx) : FlagsStay s (startSwitch d s) := by
  unfold startSwitch
  dsimp only
  split
  · split
    · exact (flagsStay_endActive _).after rfl
    · exact .of_evc rfl
  · exact .of_evc rfl

theorem flagsStay_drainEnd (d : DescIdx) : FlagsStay s (drainEnd d s) := by
  unfold drainEnd
  split
  · exact (flagsStay_raise .retired).after rfl
  · exact .refl

theorem flagsStay_uncount (c : Counted) : FlagsStay s (uncount c s) := by
  have hfall : FlagsStay s (s.modDesc c.index (Desc.decrement c.gen)) := .of_evc rfl
  unfold uncount
  dsimp only
  split
  · exact hfall.trans (flagsStay_completeSwitch _)
  · exact hfall.trans (flagsStay_drainEnd _)

theorem flagsStay_uncountIf (c : Option Counted) : FlagsStay s (uncountIf c s) := by
  cases c with
  | none => exact .refl
  | some c => exact flagsStay_uncount c

theorem flagsStay_enterCutover : FlagsStay s (enterCutover s) := by
  unfold enterCutover
  split
  · exact .refl
  · exact (flagsStay_startSwitch _).after rfl

theorem flagsStay_completeLine : FlagsStay s (completeLine s) := by
  unfold completeLine
  split
  · dsimp only
    split
    · exact .of_evc rfl
    · split
      · exact flagsStay_enterCutover.after rfl
      · exact .of_evc rfl
  · exact .refl
  · exact .refl

theorem flagsStay_copyError : FlagsStay s (copyError s) := by
  unfold copyError
  split
  · exact .refl
  · split
    · exact .of_evc rfl
    · exact flagsStay_endActive _

/-! ## Results -/

theorem flagsStay_copyResult (code : TargetCode) (data : List Byte) : FlagsStay s (copyResult code data s) := by
  have hback (f : Engine → Engine) : FlagsStay s (s.modEng f) := .of_evc rfl
  unfold copyResult
  split
  · exact hback _
  · dsimp only
    split
    · exact .of_evc rfl
    · exact (hback _).trans flagsStay_completeLine
    · exact (hback _).trans flagsStay_copyError
    · exact (hback _).trans flagsStay_copyError
    · exact hback _
    · exact hback _

theorem flagsStay_mirrorReport (c : Counted) (l : Leg) : FlagsStay s (mirrorReport c l s) := by
  unfold mirrorReport
  split
  · exact .refl
  · split
    · exact flagsStay_endActive _
    · exact .refl

theorem flagsStay_reportMirror (i : Fin 4) (k : Fin 8) (r : LegRole) : FlagsStay s (reportMirror i k r s) := by
  unfold reportMirror
  dsimp only
  split
  · exact flagsStay_mirrorReport _ _
  · exact .refl

theorem flagsStay_finishSlot (i : Fin 4) (k : Fin 8) : FlagsStay s (finishSlot i k s) := by
  unfold finishSlot
  dsimp only
  split
  · split
    · exact .of_evc rfl
    · exact (flagsStay_uncountIf _).after rfl
    · exact .refl
    · exact .refl
    · exact .refl
  · exact .refl

theorem flagsStay_legResult (i : Fin 4) (k : Fin 8) (r : LegRole) (code : TargetCode) (data : List Byte) :
    FlagsStay s (legResult i k r code data s) := by
  have hrecorded (f : Slot → Slot) : FlagsStay s (s.modSlot i k f) := .of_evc rfl
  unfold legResult
  cases code with
  | ok => exact (hrecorded _).trans (flagsStay_finishSlot i k)
  | error => exact (hrecorded _).trans ((flagsStay_reportMirror i k r).trans (flagsStay_finishSlot i k))

theorem flagsStay_ownerResult (o : Owner) (code : TargetCode) (data : List Byte) :
    FlagsStay s (ownerResult o code data s) := by
  cases o with
  | leg i k r => exact flagsStay_legResult i k r code data
  | meng => exact flagsStay_copyResult code data

theorem flagsStay_failOwners (l : List TReq) :
    FlagsStay s (l.foldl (fun s r => ownerResult r.owner .error [] s) s) :=
  flagsStay_foldl _ (fun _ r => flagsStay_ownerResult r.owner .error []) l s

end Sys2Proof.Machine
end

section
/-! SUPPORT. The target's side of a Target Port: the taking of a request, a response, the entry into OFFLINE and a write of
the timeouts, case by case (R85 to R87, R92 to R97). -/

namespace Sys2Proof.Machine

variable {s : State} {p : Fin 4}

/-! ## The taking of a request (R85) -/

/-- The first request not yet taken is taken, and no other changes. -/
theorem takeFirst_append {pre : List TReq} (h : ∀ q ∈ pre, q.taken = true) {r : TReq} (hr : r.taken = false)
    (post : List TReq) : takeFirst (pre ++ r :: post) = pre ++ { r with taken := true } :: post := by
  induction pre with
  | nil => simp [takeFirst, hr]
  | cons q pre ih =>
    obtain ⟨hq, hpre⟩ := List.forall_mem_cons.1 h
    rw [List.cons_append, takeFirst, if_pos hq, ih hpre, List.cons_append]

/-- With every request taken there is nothing to take. -/
theorem takeFirst_taken {l : List TReq} (h : ∀ q ∈ l, q.taken = true) : takeFirst l = l := by
  induction l with
  | nil => rfl
  | cons q l ih =>
    obtain ⟨hq, hl⟩ := List.forall_mem_cons.1 h
    rw [takeFirst, if_pos hq, ih hl]

/-- A change that leaves a port's record as it is changes nothing. -/
theorem modTPort_same {f : TPort → TPort} (h : f (s.tport p) = s.tport p) : s.modTPort p f = s := by
  rw [State.modTPort, h, State.tport, upd_look]

/-- Two changes that make the same of a port's record are the same. -/
theorem modTPort_congr {f g : TPort → TPort} (h : f (s.tport p) = g (s.tport p)) : s.modTPort p f = s.modTPort p g := by
  rw [State.modTPort, State.modTPort, h]

/-- Settles O30: the requests before the first untaken one are passed over. -/
theorem targetTakesInQueueOrder : Obligations.TargetTakesInQueueOrder := by
  refine fun p s => ⟨fun pre r post hq hpre hr => ⟨?_, ?_⟩, fun hall => ⟨?_, ?_⟩⟩
  · have hskip : pre.find? (fun q => !q.taken) = none := List.find?_eq_none.2 fun q hm => by simp [hpre q hm]
    rw [TPort.presentedRequest, hq, List.find?_append, hskip, Option.none_or, List.find?_cons_of_pos (by simp [hr])]
  · have htaken : takeFirst (s.tport p).queue = pre ++ { r with taken := true } :: post := by
      rw [hq, takeFirst_append hpre hr]
    exact congrArg Host.Outcome.next (modTPort_congr (congrArg (fun q => { s.tport p with queue := q }) htaken))
  · exact List.find?_eq_none.2 fun q hm => by simp [hall q hm]
  · exact congrArg Host.Outcome.next
      (modTPort_same (congrArg (fun q => { s.tport p with queue := q }) (takeFirst_taken hall)))

/-! ## Responses (R86, R87, R95, R97) -/

/-- A response to a port OFFLINE is discarded (R97). -/
theorem targetAnswers_offline (hst : (s.tport p).state = .offline) (num : BitVec 4) (code : TargetCode)
    (data : List Byte) : targetAnswers p num code data s = s := by
  rw [targetAnswers, hst]

/-- A response that matches the oldest request ends it (R86, R87). -/
theorem targetAnswers_match {r : TReq} {rest : List TReq} (hst : (s.tport p).state = .online)
    (hq : (s.tport p).queue = r :: rest) (code : TargetCode) (data : List Byte) :
    targetAnswers p r.num code data s =
      let s1 := s.modTPort p fun x =>
        { x with queue := rest, timer := if rest.isEmpty then none else loadTimer (timeoutOf s.mgmt.tgtTimeout p) }
      ownerResult r.owner code data (if code = .error then raise (.target p) s1 else s1) := by
  simp only [targetAnswers, hst, hq, if_true]
  cases code <;> rfl

/-- A response that matches no request is a protocol error (R95). -/
theorem targetAnswers_protocolError (hst : (s.tport p).state = .online) {num : BitVec 4}
    (hnum : ∀ r rest, (s.tport p).queue = r :: rest → r.num ≠ num) (code : TargetCode) (data : List Byte) :
    targetAnswers p num code data s = enterOffline p s := by
  cases hq : (s.tport p).queue with
  | nil => simp only [targetAnswers, hst, hq]
  | cons r rest => simp only [targetAnswers, hst, hq, if_neg (hnum r rest hq)]

/-- The timer as a response leaves it: loaded again for the requests that remain, stopped with none (R92). -/
theorem timer_afterResponse (rest : List TReq) (field : Nat) :
    (if rest.isEmpty then none else loadTimer field) =
      if rest = [] ∨ field = 0 then none else some (10 * field) := by
  cases rest <;> simp [loadTimer]

/-- Settles O31: the matching case of `targetAnswers`, with its timer written out. -/
theorem matchingResponseGoesToItsOwner : Obligations.MatchingResponseGoesToItsOwner := by
  refine ⟨fun p code data s r rest hst hq => congrArg Host.Outcome.next ?_, fun _ _ _ => ⟨fun _ _ _ => rfl, rfl⟩⟩
  rw [targetAnswers_match hst hq, timer_afterResponse]

/-! ## OFFLINE (R93, R95 to R97) -/

theorem enterOffline_tport (p : Fin 4) :
    (enterOffline p s).tport p = { s.tport p with state := .offline, queue := [], timer := none } := by
  rw [State.tport, enterOffline_tports, look_upd_self]

/-- Settles O32: the failed requests' owners clear neither of the two flags that the port has set. -/
theorem protocolErrorAndExpiryGoOffline : Obligations.ProtocolErrorAndExpiryGoOffline := by
  refine fun p s => ⟨fun hst num code data hnum => ?_, fun hst ht => ?_, fun hst num code data => ?_,
    enterOffline_tport p, ?_, ?_⟩
  · exact congrArg Host.Outcome.next (targetAnswers_protocolError hst hnum code data)
  · exact congrArg Host.Outcome.next (if_pos ⟨hst, ht⟩ : expireTimer p s = enterOffline p s)
  · exact congrArg Host.Outcome.next (targetAnswers_offline hst num code data)
  · exact flagsStay_failOwners _ _ (flagsStay_raise _ _ (isPending_raise_self _ _))
  · exact flagsStay_failOwners _ _ (isPending_raise_self _ _)

/-! ## Writes of TGT_TIMEOUT (R94) -/

theorem writeTimeouts_tport (v : Word) (p : Fin 4) :
    (writeTimeouts v s).tport p =
      if timeoutOf v p = timeoutOf s.mgmt.tgtTimeout p then s.tport p
      else if (s.tport p).timer.isSome = true ∨ ((s.tport p).state = .online ∧ (s.tport p).queue ≠ []) then
        { s.tport p with timer := loadTimer (timeoutOf v p) }
      else { s.tport p with timer := none } := look_tabulate ..

/-- At a lawful port a new value loads or stops the timer exactly when a request is outstanding (R92, R94). -/
theorem TPort.fits.reloads_iff {x : TPort} (h : x.fits) :
    (x.timer.isSome = true ∨ (x.state = .online ∧ x.queue ≠ [])) ↔ x.queue ≠ [] := by
  refine ⟨fun hc => hc.elim h.timer_queue And.right, fun hq => ?_⟩
  obtain ⟨_, _, hoff, _⟩ := h
  cases hst : x.state with
  | online => exact .inr ⟨rfl, hq⟩
  | offline => exact absurd (hoff hst).1 hq

/-- Settles O33: at a lawful port the model's condition for a load is that a request is outstanding. -/
theorem timeoutWriteActsAtOnce : Obligations.TimeoutWriteActsAtOnce := by
  refine fun v s hfit => ⟨_, rfl, fun p => ?_, rfl⟩
  have hreloads := (hfit p).reloads_iff
  refine (writeTimeouts_tport v p).trans (if_congr Iff.rfl rfl ?_)
  by_cases hq : (s.tport p).queue = []
  · rw [if_neg fun hc => hreloads.1 hc hq, if_pos hq]
  · rw [if_pos (hreloads.2 hq), if_neg hq, loadTimer]
    split <;> rfl

/-! ## RESET_N (R100, R165) -/

/-- Settles O6: TRST_N, IRQ and ALERT are views that RESET_N gates. -/
theorem resetNAssertionHoldsTheOutputs : Obligations.ResetNAssertionHoldsTheOutputs :=
  fun s => ⟨{ s with resetAsserted := true }, rfl, rfl, fun _ => rfl, rfl, rfl⟩

end Sys2Proof.Machine
end


section
/-! SUPPORT. The living jobs and the credits held: the operations that add no job and give no credit (R103, R104, R131). -/

namespace Sys2Proof.Machine

variable {s t u : State}

/-! ## Operations that add nothing -/

/-- From `g` to `h` no job comes to live, the queue grows no longer, and no credit is given. -/
structure Engine.AddsNone (g h : Engine) : Prop where
  queue   : h.queue.length ≤ g.queue.length
  jobs    : h.jobs.Subperm g.jobs
  credits : h.credits ≤ g.credits

theorem Engine.AddsNone.refl (g : Engine) : g.AddsNone g := ⟨Nat.le_refl _, .refl _, Nat.le_refl _⟩

theorem Engine.AddsNone.trans {f g h : Engine} (a : f.AddsNone g) (b : g.AddsNone h) : f.AddsNone h :=
  ⟨b.queue.trans a.queue, b.jobs.trans a.jobs, b.credits.trans a.credits⟩

/-- The engine adds nothing, and BUDGET stays as it is. -/
structure AddsNone (s t : State) : Prop where
  eng    : s.eng.AddsNone t.eng
  budget : t.mgmt.budget = s.mgmt.budget

theorem AddsNone.refl : AddsNone s s := ⟨.refl _, rfl⟩

theorem AddsNone.trans (h : AddsNone s t) (k : AddsNone t u) : AddsNone s u :=
  ⟨h.eng.trans k.eng, k.budget.trans h.budget⟩

theorem AddsNone.of_same (he : t.eng = s.eng) (hm : t.mgmt.budget = s.mgmt.budget) : AddsNone s t :=
  ⟨he ▸ .refl _, hm⟩

/-- What leaves the engine and BUDGET alone may come before. -/
theorem AddsNone.after (k : AddsNone t u) (he : t.eng = s.eng) (hm : t.mgmt.budget = s.mgmt.budget) : AddsNone s u :=
  (AddsNone.of_same he hm).trans k

theorem addsNone_modEng {f : Engine → Engine} (h : s.eng.AddsNone (f s.eng)) : AddsNone s (s.modEng f) := ⟨h, rfl⟩

/-- A change of the engine's record that leaves the queue, the active job and the credits adds nothing. -/
theorem Engine.addsNone_of_same {g h : Engine} (hq : h.queue = g.queue) (ha : h.active = g.active)
    (hc : h.credits = g.credits) : g.AddsNone h :=
  ⟨hq ▸ Nat.le_refl _, by rw [Engine.jobs, hq, ha]; exact .refl _, hc ▸ Nat.le_refl _⟩

theorem addsNone_foldl {α : Type} (f : State → α → State) (h : ∀ s a, AddsNone s (f s a)) (l : List α) (s : State) :
    AddsNone s (l.foldl f s) :=
  List.foldlRecOn (motive := AddsNone s) l _ .refl fun v hv a _ => hv.trans (h v a)

/-! ## The ends of jobs -/

/-- A job leaves the queue (R104). -/
theorem addsNone_endQueued (j : Job) (e : Ending) : AddsNone s (endQueued j e s) := by
  refine ⟨?_, congrArg Mgmt.budget (endQueued_mgmt s j e)⟩
  rw [endQueued_eng]
  have hsub : (s.eng.queue.eraseP fun q => decide (q.id = j.id)).Sublist s.eng.queue := List.eraseP_sublist
  exact ⟨hsub.length_le, (hsub.append_right _).subperm, Nat.le_refl _⟩

/-- The engine's record when the active job has ended, field by field (R111, R112). -/
theorem afterJob_eq (g : Engine) : g.afterJob =
    { g with
      active := none, started := false, lineInFlight := none, lineStep := none, lineData := none, retryCount := 0
      state :=
        if g.outstanding ≠ 0 then .aborting
        else if g.state = .halted ∨ g.haltPending = true then .halted else .idle
      haltPending := if g.outstanding ≠ 0 then g.haltPending else false } := by
  unfold Engine.afterJob
  dsimp only
  split
  · rfl
  · split
    · rfl
    · next h => rw [Bool.eq_false_iff.2 fun hp => h (.inr hp)]

/-- The active job lives no longer, and the queue stays (R111). -/
theorem afterJob_addsNone (g : Engine) : g.AddsNone g.afterJob := by
  rw [afterJob_eq]
  exact ⟨Nat.le_refl _, ((List.nil_sublist _).append_left _).subperm, Nat.le_refl _⟩

theorem addsNone_endActive (e : Ending) : AddsNone s (endActive e s) := by
  refine ⟨?_, congrArg Mgmt.budget (endActive_mgmt s e)⟩
  rw [endActive_eng]
  split
  · exact .refl _
  · exact afterJob_addsNone _

/-! ## The start of jobs -/

theorem addsNone_takeStartChecks : AddsNone s (takeStartChecks s) := by
  rcases takeStartChecks_cases s with h | ⟨r, h⟩ <;> rw [h]
  · exact .refl
  · exact addsNone_endActive _

/-- The head of the queue becomes the active job: it has lived before (R109). -/
theorem addsNone_activated {j : Job} {rest : List Job} (hq : s.eng.queue = j :: rest) :
    AddsNone s (s.modEng fun g => g.activated j rest) := by
  refine addsNone_modEng ⟨?_, ?_, Nat.le_refl _⟩
  · rw [hq]; exact Nat.le_succ _
  · have hperm : (rest ++ [j]).Perm (j :: rest) := List.perm_append_singleton j rest
    have hsub : (j :: rest).Sublist s.eng.jobs := by
      rw [Engine.jobs, hq]; exact List.sublist_append_left ..
    exact hperm.subperm.trans hsub.subperm

theorem addsNone_beginJob : AddsNone s (beginJob s) := by
  rcases beginJob_cases s with h | ⟨r, h⟩ | ⟨j, _, _, _, h⟩ <;> rw [h]
  · exact .refl
  · exact addsNone_endActive _
  · exact ⟨Engine.addsNone_of_same rfl rfl rfl, rfl⟩

theorem addsNone_recheckStart (d : DescIdx) : AddsNone s (recheckStart d s) := by
  rcases recheckStart_cases s d with h | ⟨_, h⟩ <;> rw [h]
  · exact .refl
  · exact addsNone_beginJob

theorem addsNone_activateJob : AddsNone s (activateJob s) := by
  rcases activateJob_cases s with h | ⟨j, rest, hq, _, _, h⟩ <;> rw [h]
  · exact .refl
  · exact (addsNone_activated hq).trans addsNone_takeStartChecks

theorem addsNone_activateAtOnce : AddsNone s (activateAtOnce s) := by
  rcases activateAtOnce_cases s with h | ⟨j, rest, hq, _, _, h⟩ <;> rw [h]
  · exact .refl
  · exact (addsNone_activated hq).trans addsNone_beginJob

/-- A line takes a credit at most (R125). -/
theorem addsNone_beginLine : AddsNone s (beginLine s) := by
  unfold beginLine
  split
  · refine addsNone_modEng ⟨Nat.le_refl _, .refl _, ?_⟩
    dsimp only
    split
    · exact Nat.le_refl _
    · exact Nat.sub_le ..
  · exact .refl

/-! ## Switches, drains and uncounts -/

theorem addsNone_switchDone (d : DescIdx) : AddsNone s (switchDone d s) := by
  unfold switchDone
  dsimp only
  split
  · exact (addsNone_endActive _).after rfl rfl
  · exact .of_same rfl rfl

theorem addsNone_completeSwitch (d : DescIdx) : AddsNone s (completeSwitch d s) :=
  (addsNone_switchDone d).trans ((addsNone_recheckStart d).after (release_eng ..) rfl)

theorem addsNone_startSwitch (d : DescIdx) : AddsNone s (startSwitch d s) := by
  unfold startSwitch
  dsimp only
  split
  · split
    · exact (addsNone_endActive _).after rfl rfl
    · exact .of_same rfl rfl
  · exact .of_same rfl rfl

theorem addsNone_drainEnd (d : DescIdx) : AddsNone s (drainEnd d s) :=
  .of_same (drainEnd_eng d) (congrArg Mgmt.budget (surround_drainEnd d).2.1)

theorem addsNone_uncount (c : Counted) : AddsNone s (uncount c s) := by
  unfold uncount
  dsimp only
  split
  · exact (addsNone_completeSwitch _).after rfl rfl
  · exact (addsNone_drainEnd _).after rfl rfl

theorem addsNone_uncountIf (c : Option Counted) : AddsNone s (uncountIf c s) := by
  cases c with
  | none => exact .refl
  | some c => exact addsNone_uncount c

theorem addsNone_leaveUse (d : DescIdx) : AddsNone s (leaveUse d s) := by
  unfold leaveUse
  dsimp only
  split
  · exact (addsNone_endActive _).after rfl rfl
  · exact .of_same rfl rfl

theorem addsNone_withdraw (d : DescIdx) : AddsNone s (withdraw d s) := by
  rw [withdraw_eq]
  exact (addsNone_leaveUse d).trans (((addsNone_recheckStart d).trans (addsNone_drainEnd d)).after
    (releaseSwitch_eng ..) (congrArg Mgmt.budget (surround_releaseSwitch ..).2.1))

/-! ## Copying and cutover -/

theorem addsNone_enterCutover : AddsNone s (enterCutover s) := by
  have hcutover (j : Job) : AddsNone s (cuttingOver j s) := ⟨Engine.addsNone_of_same rfl rfl rfl, rfl⟩
  rcases hj : s.eng.active with _ | j
  · unfold enterCutover; rw [hj]; exact .refl
  · rw [enterCutover_eq hj]; exact (hcutover j).trans (addsNone_startSwitch _)

theorem addsNone_completeLine : AddsNone s (completeLine s) := by
  rcases completeLine_cases (s := s) with h | ⟨j, l, u, _, _, rfl, hu⟩
  · rw [h]; exact .refl
  · have hdone : AddsNone s (release (Hold.onLine (ordIdx j.desc) l) (s.modEng Engine.lineDone)) :=
      ⟨Engine.addsNone_of_same rfl rfl rfl, rfl⟩
    rcases hu with h | h | h <;> rw [h]
    · exact hdone
    · exact hdone.trans (addsNone_modEng (Engine.addsNone_of_same rfl rfl rfl))
    · exact hdone.trans addsNone_enterCutover

theorem addsNone_copyError : AddsNone s (copyError s) := by
  unfold copyError
  split
  · exact .refl
  · split
    · exact addsNone_modEng (Engine.addsNone_of_same rfl rfl rfl)
    · exact addsNone_endActive _

theorem abortResult_addsNone (g : Engine) : g.AddsNone g.abortResult := by
  unfold Engine.abortResult
  dsimp only
  split
  · exact Engine.addsNone_of_same rfl rfl rfl
  · split <;> exact Engine.addsNone_of_same rfl rfl rfl

theorem addsNone_copyResult (code : TargetCode) (data : List Byte) : AddsNone s (copyResult code data s) := by
  have hback : AddsNone s (s.modEng Engine.answered) := addsNone_modEng (Engine.addsNone_of_same rfl rfl rfl)
  unfold copyResult
  split
  · exact addsNone_modEng (abortResult_addsNone _)
  · dsimp only
    split
    · exact hback.trans (addsNone_modEng (Engine.addsNone_of_same rfl rfl rfl))
    · exact hback.trans addsNone_completeLine
    · exact hback.trans addsNone_copyError
    · exact hback.trans addsNone_copyError
    · exact hback
    · exact hback

theorem addsNone_mirrorReport (c : Counted) (l : Leg) : AddsNone s (mirrorReport c l s) := by
  unfold mirrorReport
  split
  · exact .refl
  · split
    · exact addsNone_endActive _
    · exact .refl

/-! ## The Initiator Ports -/

theorem addsNone_resolveSlot (i : Fin 4) (k : Fin 8) : AddsNone s (resolveSlot i k s) := by
  unfold resolveSlot
  dsimp only
  split <;> exact .of_same rfl rfl

theorem addsNone_acceptRequest (i : Fin 4) (r : Request) : AddsNone s (acceptRequest i r s) := by
  unfold acceptRequest
  dsimp only
  split
  · exact .refl
  · split
    · exact .of_same rfl rfl
    · split
      · exact .refl
      · split
        · exact .of_same rfl rfl
        · exact (addsNone_resolveSlot _ _).after rfl rfl

theorem addsNone_reResolve (i : Fin 4) : AddsNone s (reResolve i s) := by
  unfold reResolve
  split
  · exact .refl
  · exact (addsNone_resolveSlot _ _).after rfl rfl

theorem addsNone_takeResponse (i : Fin 4) : AddsNone s (takeResponse i s) := by
  unfold takeResponse
  dsimp only
  split
  · exact .refl
  · split
    · exact .refl
    · exact .of_same rfl rfl
    · exact (addsNone_uncountIf _).after rfl rfl

theorem addsNone_finishSlot (i : Fin 4) (k : Fin 8) : AddsNone s (finishSlot i k s) := by
  unfold finishSlot
  dsimp only
  split
  · split
    · exact .of_same rfl rfl
    · exact (addsNone_uncountIf _).after rfl rfl
    · exact .refl
    · exact .refl
    · exact .refl
  · exact .refl

theorem addsNone_reportMirror (i : Fin 4) (k : Fin 8) (r : LegRole) : AddsNone s (reportMirror i k r s) := by
  unfold reportMirror
  dsimp only
  split
  · exact addsNone_mirrorReport _ _
  · exact .refl

theorem addsNone_legResult (i : Fin 4) (k : Fin 8) (r : LegRole) (code : TargetCode) (data : List Byte) :
    AddsNone s (legResult i k r code data s) := by
  unfold legResult
  cases code with
  | ok => exact (addsNone_finishSlot i k).after rfl rfl
  | error => exact ((addsNone_reportMirror i k r).trans (addsNone_finishSlot i k)).after rfl rfl

theorem addsNone_assertIrst (i : Fin 4) : AddsNone s (assertIrst i s) :=
  (addsNone_foldl _ (fun _ c => addsNone_uncountIf c) _ _).after rfl rfl

/-! ## The Target Ports -/

theorem addsNone_ownerResult (o : Owner) (code : TargetCode) (data : List Byte) :
    AddsNone s (ownerResult o code data s) := by
  cases o with
  | leg i k r => exact addsNone_legResult i k r code data
  | meng => exact addsNone_copyResult code data

theorem addsNone_enterOffline (p : Fin 4) : AddsNone s (enterOffline p s) :=
  (addsNone_foldl _ (fun _ (r : TReq) => addsNone_ownerResult r.owner .error []) _ _).after rfl rfl

theorem addsNone_targetAnswers (p : Fin 4) (num : BitVec 4) (code : TargetCode) (data : List Byte) :
    AddsNone s (targetAnswers p num code data s) := by
  unfold targetAnswers
  split
  · exact .refl
  · split
    · exact addsNone_enterOffline p
    · dsimp only
      split
      · cases code <;> exact (addsNone_ownerResult _ _ _).after rfl rfl
      · exact addsNone_enterOffline p

theorem addsNone_expireTimer (p : Fin 4) : AddsNone s (expireTimer p s) := by
  unfold expireTimer
  split
  · exact addsNone_enterOffline p
  · exact .refl

theorem addsNone_handOver (p : Fin 4) (r : Requester) : AddsNone s (handOver p r s).1 := by
  unfold handOver
  split
  · split
    · exact ⟨Engine.addsNone_of_same rfl rfl rfl, rfl⟩
    · exact .refl
  · split <;> exact .of_same rfl rfl

theorem addsNone_takeGrant (p : Fin 4) (b : ReqBody) (o : Owner) : AddsNone s (takeGrant p b o s) := by
  unfold takeGrant
  split
  · exact .of_same rfl rfl
  · exact (addsNone_ownerResult _ _ _).after rfl rfl

theorem addsNone_grant (p : Fin 4) : AddsNone s (grant p s) := by
  unfold grant
  split
  · exact .refl
  · split
    · exact .refl
    · next r _ =>
      have hover : AddsNone s (handOver p r (s.modTPort p fun x => { x with lastGranted := r })).1 :=
        (addsNone_handOver p r).after rfl rfl
      split
      · next he => rw [he] at hover; exact hover.trans (addsNone_takeGrant p _ _)
      · next he => rw [he] at hover; exact hover

theorem addsNone_endRestore (p : Fin 4) : AddsNone s (endRestore p s) := by
  unfold endRestore
  split <;> exact .of_same rfl rfl

/-! ## HALT ENGINE, RESUME ENGINE and the arrivals at a monitor -/

theorem halt_addsNone {g h : Engine} (hh : g.halt = some h) : g.AddsNone h := by
  unfold Engine.halt at hh
  split at hh
  · cases hh
  · split at hh
    · cases hh
    · cases hh; exact Engine.addsNone_of_same rfl rfl rfl
    · cases hh; exact Engine.addsNone_of_same rfl rfl rfl
    · cases hh; split <;> exact Engine.addsNone_of_same rfl rfl rfl
    · cases hh; exact Engine.addsNone_of_same rfl rfl rfl
    · cases hh; exact Engine.addsNone_of_same rfl rfl rfl

theorem addsNone_resumeEngine : AddsNone s (resumeEngine s) := by
  have hstate (st : EngState) : AddsNone s (s.modEng fun g => { g with state := st }) :=
    addsNone_modEng (Engine.addsNone_of_same rfl rfl rfl)
  unfold resumeEngine
  split
  · exact (hstate .idle).trans addsNone_activateAtOnce
  · split
    · dsimp only
      split
      · exact (hstate .copying).trans addsNone_enterCutover
      · exact hstate .copying
    · exact (hstate .starting).trans addsNone_beginJob

theorem addsNone_takeArrival (a : Arrival) : AddsNone s (takeArrival a s) := by
  have htick (m : Fin 16) : AddsNone s (takeTick m s) := by
    unfold takeTick
    split
    · exact .refl
    · exact .refl
    · split <;> exact .of_same rfl rfl
  have haccess (m : Fin 16) : AddsNone s (takeAccess m s) := by
    unfold takeAccess
    split <;> exact .of_same rfl rfl
  cases a with
  | tick m src =>
    simp only [takeArrival]
    split
    · exact htick m
    · exact .refl
  | access m d dir =>
    simp only [takeArrival]
    split
    · exact haccess m
    · exact .refl

end Sys2Proof.Machine
end


section
/-! SUPPORT. Enqueues, the budget and RESTART, and so every step, keep the living jobs distinct, at most 8 of them queued
(R103, R104), and the credits held within CREDITS (R118, R131). -/

namespace Sys2Proof.Machine

variable {s t u : State}

/-- An operation keeps the living jobs distinct and few enough, and the credits held within CREDITS. -/
structure JobsKept (s t : State) : Prop where
  jobs    : JobsDistinct s → JobsDistinct t
  credits : CreditsBounded s → CreditsBounded t

theorem JobsKept.refl : JobsKept s s := ⟨id, id⟩

theorem JobsKept.trans (h : JobsKept s t) (k : JobsKept t u) : JobsKept s u :=
  ⟨k.jobs ∘ h.jobs, k.credits ∘ h.credits⟩

/-- Of a list without repetition no part has one, whatever is read off its items. -/
theorem nodup_map_of_subperm {α β : Type} {l l' : List α} (h : l.Subperm l') (f : α → β) (hn : (l'.map f).Nodup) :
    (l.map f).Nodup := by
  obtain ⟨m, hperm, hsub⟩ := h
  exact (hperm.map f).nodup_iff.1 ((hsub.map f).nodup hn)

theorem AddsNone.kept (h : AddsNone s t) : JobsKept s t := by
  obtain ⟨⟨hqueue, hjobs, hcredits⟩, hbudget⟩ := h
  refine ⟨fun ⟨hlen, hid, hdesc⟩ => ?_, fun hc => ?_⟩
  · exact ⟨hqueue.trans hlen, nodup_map_of_subperm hjobs _ hid, nodup_map_of_subperm hjobs _ hdesc⟩
  · unfold CreditsBounded
    rw [hbudget]
    exact hcredits.trans hc

theorem JobsKept.of_same (he : t.eng = s.eng) (hm : t.mgmt.budget = s.mgmt.budget) : JobsKept s t :=
  (AddsNone.of_same he hm).kept

/-- What leaves the engine and BUDGET alone may come before. -/
theorem JobsKept.after (k : JobsKept t u) (he : t.eng = s.eng) (hm : t.mgmt.budget = s.mgmt.budget) : JobsKept s u :=
  (JobsKept.of_same he hm).trans k

theorem jobsKept_foldl {α : Type} (f : State → α → State) (h : ∀ s a, JobsKept s (f s a)) (l : List α) (s : State) :
    JobsKept s (l.foldl f s) :=
  List.foldlRecOn (motive := JobsKept s) l _ .refl fun v hv a _ => hv.trans (h v a)

/-! ## The ID of a new job (R103) -/

/-- The search for an ID stops at the first that is not held, or when it has looked at as many as it may. -/
theorem firstFreeId_spec (held : List (BitVec 8)) (n : Nat) (id : BitVec 8) :
    ∃ k ≤ n, firstFreeId held n id = id + BitVec.ofNat 8 k ∧ (∀ i < k, id + BitVec.ofNat 8 i ∈ held) ∧
      (k < n → firstFreeId held n id ∉ held) := by
  induction n generalizing id with
  | zero => exact ⟨0, Nat.le_refl 0, by simp [firstFreeId], nofun, nofun⟩
  | succ n ih =>
    by_cases hheld : id ∈ held
    · obtain ⟨k, hk, heq, hbefore, hfree⟩ := ih (id + 1)
      have hnext : firstFreeId held (n + 1) id = firstFreeId held n (id + 1) := by simp [firstFreeId, hheld]
      have hshift (i : Nat) : id + 1 + BitVec.ofNat 8 i = id + BitVec.ofNat 8 (i + 1) := by
        rw [BitVec.ofNat_add, BitVec.add_assoc, BitVec.add_comm (1 : BitVec 8)]; rfl
      refine ⟨k + 1, by omega, by rw [hnext, heq, hshift], fun i hi => ?_, fun hlt => ?_⟩
      · cases i with
        | zero => simpa using hheld
        | succ i => rw [← hshift]; exact hbefore i (by omega)
      · rw [hnext]; exact hfree (by omega)
    · have hfound : firstFreeId held (n + 1) id = id := by simp [firstFreeId, hheld]
      exact ⟨0, by omega, by simp [hfound], nofun, fun _ => by rwa [hfound]⟩

/-- The 256 IDs from any one on, wrapping, are different. -/
theorem idsFrom_nodup (id : BitVec 8) : ((List.range 256).map fun i => id + BitVec.ofNat 8 i).Nodup := by
  refine List.Nodup.map_on (fun a ha b hb heq => ?_) List.nodup_range
  rw [List.mem_range] at ha hb
  have := congrArg BitVec.toNat ((BitVec.add_right_inj id).1 heq)
  simp only [BitVec.toNat_ofNat] at this
  omega

/-- Where fewer than 256 IDs are held the search finds one that is not. -/
theorem firstFreeId_found {held : List (BitVec 8)} (h : held.length < 256) (id : BitVec 8) :
    firstFreeId held 256 id ∉ held ∧ ∃ n < 256, firstFreeId held 256 id = id + BitVec.ofNat 8 n ∧
      ∀ k < n, id + BitVec.ofNat 8 k ∈ held := by
  obtain ⟨n, hn, heq, hbefore, hfree⟩ := firstFreeId_spec held 256 id
  have hlt : n < 256 := by
    by_contra hge
    have hall : ((List.range 256).map fun i => id + BitVec.ofNat 8 i) ⊆ held := by
      intro x hx
      obtain ⟨i, hi, rfl⟩ := List.mem_map.1 hx
      exact hbefore i (by rw [List.mem_range] at hi; omega)
    have := (List.subperm_of_subset (idsFrom_nodup id) hall).length_le
    simp at this
    omega
  exact ⟨hfree hlt, n, hlt, heq, hbefore⟩

theorem heldIds_eq (g : Engine) : g.heldIds = g.jobs.map Job.id := (List.map_append ..).symm

/-- At most nine IDs are held, so the new job's is not (R103). -/
theorem newJobId_spec (h : s.eng.queue.length ≤ 8) : newJobId s ∉ s.eng.jobs.map Job.id ∧
    ∃ n < 256, newJobId s = s.eng.nextJobId + BitVec.ofNat 8 n ∧
      ∀ k < n, s.eng.nextJobId + BitVec.ofNat 8 k ∈ s.eng.jobs.map Job.id := by
  rw [newJobId, heldIds_eq]
  refine firstFreeId_found ?_ _
  have hactive : s.eng.active.toList.length ≤ 1 := by cases s.eng.active <;> simp
  rw [List.length_map, Engine.jobs, List.length_append]
  omega

/-! ## Enqueues (R105, R106) -/

/-- Where no check of a row refuses, the first does not, nor does any after it. -/
theorem check_passed {c : Prop} [Decidable c] {r : Reason} {o : Option Reason}
    (h : (if c then some r else o) = none) : ¬c ∧ o = none := by
  split at h
  · cases h
  · next hc => exact ⟨hc, h⟩

/-- What the checks of an enqueue pass: a LIVE descriptor with a read window, that no living job names, room in the
queue, and a destination in target space apart from the descriptor's windows (R105). -/
theorem enqueueRefusal_none {d : Fin 64} {w : Window} (h : enqueueRefusal s d w = none) :
    (s.desc (ordIdx d)).state = .live ∧ s.eng.queue.length < 8 ∧ d ∉ s.eng.jobs.map Job.desc ∧
      (s.desc (ordIdx d)).read ≠ .fault ∧ w.fits (s.desc (ordIdx d)).size = true ∧
      (s.desc (ordIdx d)).windows.any (fun v => w.overlaps v (s.desc (ordIdx d)).size) = false := by
  unfold enqueueRefusal at h
  dsimp only at h
  obtain ⟨hlive, h⟩ := check_passed h
  obtain ⟨hfull, h⟩ := check_passed h
  obtain ⟨hdup, h⟩ := check_passed h
  obtain ⟨hread, h⟩ := check_passed h
  obtain ⟨_, h⟩ := check_passed h
  obtain ⟨hfits, h⟩ := check_passed h
  obtain ⟨hover, _⟩ := check_passed h
  refine ⟨not_not.1 hlive, Nat.lt_of_not_le hfull, fun hd => hdup ?_, hread, by simpa using hfits,
    Bool.eq_false_iff.2 hover⟩
  obtain ⟨j, hj, rfl⟩ := List.mem_map.1 hd
  exact List.any_eq_true.2 ⟨j, hj, decide_eq_true rfl⟩

/-- A job that the checks pass joins: it differs from all that live in ID and descriptor (R103, R104). -/
theorem jobsKept_enqueue {d : Fin 64} {w : Window} (h : enqueueRefusal s d w = none) (mode : Mode) (o : Origin) :
    JobsKept s (enqueue d w mode o s) := by
  obtain ⟨_, hroom, hdesc, _⟩ := enqueueRefusal_none h
  refine ⟨fun ⟨hlen, hids, hdescs⟩ => ?_, id⟩
  have hid : newJobId s ∉ s.eng.jobs.map Job.id := (newJobId_spec hlen).1
  have hperm : (enqueue d w mode o s).eng.jobs.Perm (⟨newJobId s, d, w, mode, o⟩ :: s.eng.jobs) := by
    simp only [enqueue, State.modEng_eng, Engine.jobs, List.append_assoc, List.singleton_append]
    exact List.perm_middle
  refine ⟨?_, ?_, ?_⟩
  · simp only [enqueue, State.modEng_eng, List.length_append, List.length_singleton]; omega
  · exact (hperm.map Job.id).nodup_iff.2 (List.nodup_cons.2 ⟨hid, hids⟩)
  · exact (hperm.map Job.desc).nodup_iff.2 (List.nodup_cons.2 ⟨hdesc, hdescs⟩)

theorem jobsKept_monitorEnqueue (m : Fin 16) (w : Template) (o : Origin) : JobsKept s (monitorEnqueue m w o s).1 := by
  unfold monitorEnqueue
  split
  · exact .of_same rfl rfl
  · next h => exact jobsKept_enqueue h _ _

theorem jobsKept_takeIdleAsk (m : Fin 16) : JobsKept s (takeIdleAsk m s) := by
  unfold takeIdleAsk
  split
  · exact .refl
  · next w _ =>
    have h := jobsKept_monitorEnqueue (s := s) m w (.monitorIdle m)
    split
    · next he => rw [he] at h; exact h.trans (.of_same rfl rfl)
    · next he => rw [he] at h; exact h

theorem jobsKept_takeWakeAsk (m : Fin 16) : JobsKept s (takeWakeAsk m s) := by
  unfold takeWakeAsk
  split
  · exact .refl
  · exact jobsKept_monitorEnqueue ..

theorem jobsKept_takeWithdrawal (m : Fin 16) (id : BitVec 8) : JobsKept s (takeWithdrawal m id s) := by
  unfold takeWithdrawal
  split
  · exact (addsNone_endQueued _ _).kept.trans (.of_same rfl rfl)
  · exact .of_same rfl rfl

theorem jobsKept_takeAsk (m : Fin 16) : JobsKept s (takeAsk m s) := by
  unfold takeAsk
  dsimp only
  split
  · exact .refl
  · exact (jobsKept_takeIdleAsk m).after rfl rfl
  · exact (jobsKept_takeWithdrawal m _).after rfl rfl
  · exact (jobsKept_takeWakeAsk m).after rfl rfl

theorem jobsKept_finishAsks (m : Fin 16) : JobsKept s (finishAsks m s) :=
  (jobsKept_takeAsk m).trans (jobsKept_takeAsk m)

theorem jobsKept_finishAll (sel : Monitor → Bool) : JobsKept s (finishAll sel s) := by
  obtain ⟨ms, n, h⟩ := finishAll_foldl sel s
  rw [h]
  exact (jobsKept_foldl _ (fun _ m => jobsKept_finishAsks m) ms { s with freeDraws := n }).after rfl rfl

/-! ## Commands at the Management Port -/

/-- What an owning block does with a command keeps the jobs and the credits in bounds. -/
def KeepsJobs (act : Action) : Prop := ∀ s, JobsKept s (act s).1

theorem jobsKept_writeCommand {code : BitVec 8} {act : Action} (h : KeepsJobs act) :
    JobsKept s (writeCommand code act s) := by
  have hact : JobsKept s (act (latchCommand code s)).1 := (h _).after rfl rfl
  rcases writeCommand_cases s code act with hw | ⟨_, ⟨t, e, ha, hw⟩ | ⟨t, ha, hw⟩⟩ <;> rw [hw]
  · exact .of_same rfl rfl
  · rw [ha] at hact; exact hact.trans (.of_same rfl rfl)
  · rw [ha] at hact; exact hact

theorem keepsJobs_withIndex {n : Nat} {act : DescIdx → Action} (h : ∀ d, KeepsJobs (act d)) :
    KeepsJobs (withIndex n act) := fun s => by
  unfold withIndex
  split
  · exact h _ s
  · exact .refl

theorem keepsJobs_withMonitor {n : Nat} {act : Fin 16 → Action} (h : ∀ m, KeepsJobs (act m)) :
    KeepsJobs (withMonitor n act) := fun s => by
  unfold withMonitor
  split
  · exact h _ s
  · exact .refl

theorem keepsJobs_stageAct : KeepsJobs stageAct := fun s => by
  refine keepsJobs_withIndex (fun d s => ?_) s
  split
  · exact .refl
  · split
    · exact .refl
    · split
      · exact .refl
      · exact .of_same rfl rfl

theorem keepsJobs_activateAct : KeepsJobs activateAct := fun s => by
  refine keepsJobs_withIndex (fun d s => ?_) s
  split
  · exact .refl
  · exact .of_same rfl rfl

theorem keepsJobs_modifyAct : KeepsJobs modifyAct := fun s => by
  refine keepsJobs_withIndex (fun d s => ?_) s
  split
  · exact .refl
  · split
    · exact .refl
    · split
      · exact .refl
      · split
        · exact .refl
        · exact (addsNone_startSwitch d).kept.after (t := s.modDesc d _) rfl rfl

theorem keepsJobs_retireAct : KeepsJobs retireAct := fun s => by
  refine keepsJobs_withIndex (fun d s => ?_) s
  have hwithdrawn : JobsKept s (withdraw d (finishMonitorsOn d s)) :=
    (jobsKept_finishAll _).trans (addsNone_withdraw d).kept
  split
  · exact .refl
  · split
    · exact .refl
    · exact .refl
    · exact .of_same rfl rfl
    · rw [finished_fst]; exact hwithdrawn
    · rw [finished_fst]; exact hwithdrawn

theorem keepsJobs_readDescriptorAct : KeepsJobs readDescriptorAct := fun s =>
  keepsJobs_withIndex (fun _ _ => .refl) s

theorem keepsJobs_probeAct : KeepsJobs probeAct := fun s => by
  unfold probeAct
  dsimp only
  split
  · exact .refl
  · split
    · split <;> exact .refl
    · exact .refl

theorem jobsKept_enqueueAtOnce {d : Fin 64} {w : Window} (h : enqueueRefusal s d w = none) (mode : Mode) :
    JobsKept s (enqueueAtOnce d w mode s) := by
  have hqueued := jobsKept_enqueue h mode .software
  unfold enqueueAtOnce
  split
  · exact hqueued.trans addsNone_activateAtOnce.kept
  · exact hqueued

theorem keepsJobs_queueMigrationAct : KeepsJobs queueMigrationAct := fun s => by
  unfold queueMigrationAct
  split
  · exact .refl
  · split
    · split
      · exact .refl
      · next h => exact jobsKept_enqueueAtOnce h _
    · exact .refl

theorem keepsJobs_cancelJobAct : KeepsJobs cancelJobAct := fun s => by
  unfold cancelJobAct
  dsimp only
  split
  · exact .refl
  · split
    · exact (addsNone_endQueued _ _).kept
    · split
      · exact .refl
      · split
        · exact .refl
        · exact (addsNone_endActive _).kept

theorem keepsJobs_queryJobAct : KeepsJobs queryJobAct := fun s => by
  unfold queryJobAct
  dsimp only
  split
  · exact .refl
  · split
    · exact .refl
    · split <;> exact .refl

theorem keepsJobs_haltEngineAct : KeepsJobs haltEngineAct := fun s => by
  unfold haltEngineAct
  split
  · exact .refl
  · next h => exact AddsNone.kept ⟨halt_addsNone h, rfl⟩

theorem keepsJobs_resumeEngineAct : KeepsJobs resumeEngineAct := fun s => by
  unfold resumeEngineAct
  split
  · exact addsNone_resumeEngine.kept
  · exact .refl

theorem keepsJobs_setMonitorAct : KeepsJobs setMonitorAct := fun s => by
  refine keepsJobs_withMonitor (fun m s => ?_) s
  split
  · exact .refl
  · split
    · split
      · exact .refl
      · split
        · exact .refl
        · exact .of_same rfl rfl
    · exact .refl

theorem keepsJobs_stopMonitorAct : KeepsJobs stopMonitorAct := fun s => by
  refine keepsJobs_withMonitor (fun m s => ?_) s
  split
  · exact .refl
  · exact (jobsKept_finishAsks m).trans (.of_same rfl rfl)

theorem keepsJobs_readMonitorAct : KeepsJobs readMonitorAct := fun s =>
  keepsJobs_withMonitor (fun _ _ => .refl) s

theorem keepsJobs_restoreTargetAct : KeepsJobs restoreTargetAct := fun s => by
  unfold restoreTargetAct
  split
  · split
    · exact .refl
    · exact .of_same rfl rfl
  · exact .refl

/-- RESTART leaves no job, and the credits held are CREDITS (R118). -/
theorem jobsKept_restartEngine : JobsKept s (restartEngine s) := by
  constructor
  · unfold JobsDistinct
    rw [restartEngine_eng]
    exact fun _ => ⟨Nat.zero_le 8, List.nodup_nil, List.nodup_nil⟩
  · unfold CreditsBounded
    rw [restartEngine_eng, restartEngine_mgmt]
    exact fun _ => Nat.le_refl _

theorem keepsJobs_restartAct : KeepsJobs restartAct := fun s =>
  ((jobsKept_finishAll (fun _ => true)).trans (jobsKept_restartEngine (s := finishAll (fun _ => true) s))).trans
    (.of_same rfl rfl)

theorem keepsJobs_actionOf (code : BitVec 8) : KeepsJobs (actionOf code) := by
  unfold actionOf
  split
  · exact keepsJobs_stageAct
  · exact keepsJobs_activateAct
  · exact keepsJobs_modifyAct
  · exact keepsJobs_retireAct
  · exact keepsJobs_readDescriptorAct
  · exact keepsJobs_probeAct
  · exact keepsJobs_queueMigrationAct
  · exact keepsJobs_cancelJobAct
  · exact keepsJobs_queryJobAct
  · exact keepsJobs_haltEngineAct
  · exact keepsJobs_resumeEngineAct
  · exact keepsJobs_setMonitorAct
  · exact keepsJobs_stopMonitorAct
  · exact keepsJobs_readMonitorAct
  · exact keepsJobs_restoreTargetAct
  · exact keepsJobs_restartAct
  · exact fun _ => .refl

theorem jobsKept_command (code : BitVec 8) : JobsKept s (writeCommand code (actionOf code) s) :=
  jobsKept_writeCommand (keepsJobs_actionOf code)

/-! ## The budget (R131, R133) -/

theorem jobsKept_expireBudget : JobsKept s (expireBudget s) := ⟨id, fun _ => Nat.le_refl _⟩

/-- A BUDGET write clips the credits held to a lower CREDITS (R133). -/
theorem jobsKept_writeBudget (v : Word) : JobsKept s (writeBudget v s) := by
  refine ⟨id, fun h => ?_⟩
  show (if creditsOf (budgetWord v) < creditsOf s.mgmt.budget then min s.eng.credits (creditsOf (budgetWord v))
    else s.eng.credits) ≤ creditsOf (budgetWord v)
  unfold CreditsBounded at h
  split
  · exact Nat.min_le_right ..
  · omega

theorem jobsKept_writeWindow (w : WindowWord) (v : Word) : JobsKept s (writeWindow w v s) := by
  cases w with
  | command => exact jobsKept_command _
  | budget => exact jobsKept_writeBudget v
  | ident => exact .refl
  | result => exact .refl
  | unnamed => exact .refl
  | status => exact .of_same rfl rfl
  | param => exact .of_same rfl rfl
  | eventPending => exact .of_same rfl rfl
  | eventRoute => exact .of_same rfl rfl
  | retry => exact .of_same rfl rfl
  | tgtTimeout => exact .of_same rfl rfl

/-! ## Steps -/

/-- The laws of the jobs and the credits hold after power-on, whatever was before. -/
theorem jobsKept_of_lawful (h : Lawful t) : JobsKept s t := by
  obtain ⟨_, _, _, hjobs, hcredits, _⟩ := h
  exact ⟨fun _ => hjobs, fun _ => hcredits⟩

theorem jobsKept_exec (c : Instr) (h : exec c s = .next t) : JobsKept s t := by
  cases c <;> cases h
  case powerOnReset => exact jobsKept_of_lawful (lawful_of_powerOn rfl)
  case irstNAssert i => exact (addsNone_assertIrst i).kept
  case acceptRequest i r => exact (addsNone_acceptRequest i r).kept
  case reResolution i => exact (addsNone_reResolve i).kept
  case responseTaken i => exact (addsNone_takeResponse i).kept
  case arbiterGrant p => exact (addsNone_grant p).kept
  case targetResponse p n c d => exact (addsNone_targetAnswers p n c d).kept
  case responseTimerExpiry p => exact (addsNone_expireTimer p).kept
  case restoreEnd p => exact (addsNone_endRestore p).kept
  case lineBegin => exact addsNone_beginLine.kept
  case jobActivate => exact addsNone_activateJob.kept
  case jobStart => exact addsNone_beginJob.kept
  case budgetExpiry => exact jobsKept_expireBudget
  case stage => exact jobsKept_command 0x01
  case activate => exact jobsKept_command 0x02
  case modify => exact jobsKept_command 0x03
  case retire => exact jobsKept_command 0x04
  case readDescriptor => exact jobsKept_command 0x05
  case probe => exact jobsKept_command 0x06
  case queueMigration => exact jobsKept_command 0x07
  case cancelJob => exact jobsKept_command 0x08
  case queryJob => exact jobsKept_command 0x09
  case haltEngine => exact jobsKept_command 0x0A
  case resumeEngine => exact jobsKept_command 0x0B
  case setMonitor => exact jobsKept_command 0x0C
  case stopMonitor => exact jobsKept_command 0x0D
  case readMonitor => exact jobsKept_command 0x0E
  case restoreTarget => exact jobsKept_command 0x0F
  case restart => exact jobsKept_command 0x10
  case unknownCommand v => exact jobsKept_writeWindow .command v
  case commandOverrun v => exact jobsKept_writeWindow .command v
  case budgetWrite v => exact jobsKept_writeBudget v
  case registerWrite off v => exact jobsKept_writeWindow _ v
  case goIdle m =>
    split
    · exact JobsKept.after (t := { s with arrivals := s.arrivals.erase _ })
        ((jobsKept_finishAsks m).trans (u := goIdle m (finishAsks m _)) (.of_same rfl rfl)) rfl rfl
    · exact .refl
  all_goals exact .of_same rfl rfl

theorem jobsKept_takeEvent (e : PartEvent) : JobsKept s (takeEvent e s) := by
  cases e with
  | activate => exact addsNone_activateJob.kept
  | start => exact addsNone_beginJob.kept
  | line => exact addsNone_beginLine.kept
  | ask m => exact jobsKept_takeAsk m
  | arrive a =>
    exact (addsNone_takeArrival a).kept.after (t := { s with arrivals := s.arrivals.erase a }) rfl rfl

theorem jobsKept_expiry {f : State → State} (h : f ∈ expiries u) (s : State) : JobsKept s (f s) := by
  simp only [expiries, List.mem_append, List.mem_map] at h
  rcases h with ((⟨p, _, rfl⟩ | ⟨p, _, rfl⟩) | h) | ⟨src, _, rfl⟩
  · exact (addsNone_expireTimer p).kept
  · exact (addsNone_endRestore p).kept
  · split at h
    · rw [List.mem_singleton.1 h]; exact jobsKept_expireBudget
    · cases h
  · exact .of_same rfl rfl

/-- A microsecond passes: the budget timer falls, and the expiries act one after another (R131). -/
theorem jobsKept_microsecond : JobsKept s (microsecond s) :=
  List.foldlRecOn (motive := JobsKept s) (expiries s) _ ⟨id, id⟩ fun v hv _ hf => hv.trans (jobsKept_expiry hf v)

theorem jobsKept_partStep : JobsKept s (partStep s) := by
  rcases partStep_cases s with ⟨_, h⟩ | ⟨_, ⟨_, h⟩ | ⟨e, _, n, h⟩⟩ <;> rw [h]
  · exact .refl
  · exact jobsKept_microsecond
  · exact (jobsKept_takeEvent e).after (t := { s with freeDraws := n }) rfl rfl

theorem jobsKept_step (h : step s = .next t) : JobsKept s t := by
  unfold step at h
  split at h
  · cases h; exact jobsKept_partStep
  · next c rest _ => exact (jobsKept_exec c h).after (t := { s with pending := rest }) rfl rfl

/-- Settles O57: only an enqueue adds a job, one that its checks and the search for an ID keep apart from the others. -/
theorem jobsAndCreditsStayInBounds : Obligations.JobsAndCreditsStayInBounds :=
  ⟨fun _ _ hs h => (jobsKept_step h).jobs hs, fun _ _ hs h => (jobsKept_step h).credits hs⟩

end Sys2Proof.Machine
end


section
/-! SUPPORT. The engine's own steps, case by case: the start checks in their order, JOB_ACTIVATE, JOB_START, the end of the
active job, and the results of copy requests (R109 to R112, R126, R127, R134). -/

namespace Sys2Proof.Machine

variable {s : State} {j : Job} {x : Desc}

/-! ## The start checks (R110) -/

/-- Some window of a list shares a target location with `v` (R105 check 8). -/
theorem any_overlaps {v : Window} {l : List Window} {size : Nat} :
    l.any (fun w => v.overlaps w size) = true ↔ ∃ w ∈ l, w.target = v.target ∧
      w.base.toNat < v.base.toNat + 2 ^ size ∧ v.base.toNat < w.base.toNat + 2 ^ size := by
  have hone (w : Window) : v.overlaps w size = true ↔ w.target = v.target ∧
      w.base.toNat < v.base.toNat + 2 ^ size ∧ v.base.toNat < w.base.toNat + 2 ^ size := by
    simp only [Window.overlaps, Bool.and_eq_true, decide_eq_true_eq]
    exact ⟨fun ⟨⟨ht, hv⟩, hw⟩ => ⟨ht.symm, hw, hv⟩, fun ⟨ht, hw, hv⟩ => ⟨⟨ht.symm, hv⟩, hw⟩⟩
  simp only [List.any_eq_true, hone]

theorem fits_iff {v : Window} {size : Nat} : v.fits size = true ↔ v.base.toNat + 2 ^ size ≤ 2 ^ 28 := decide_eq_true_iff

theorem startVerdict_state (h : x.state ≠ .live) : startVerdict x j = .fail .state := if_pos h

theorem startVerdict_wait (h : x.state = .live) (hs : x.switching = true) : startVerdict x j = .wait := by
  rw [startVerdict, if_neg (not_not.2 h), if_pos hs]

/-- The checks of a LIVE descriptor that is not switching: ROUTE, OVERLAP, RANGE. -/
theorem startVerdict_settled (h : x.state = .live) (hs : x.switching = false) : startVerdict x j =
    if x.read = .fault then .fail .route
    else if x.windows.any (fun w => j.dest.overlaps w x.size) = true then .fail .overlap
    else if j.dest.fits x.size = true then .pass else .fail .range := by
  rw [startVerdict, if_neg (not_not.2 h), if_neg (by rw [hs]; nofun)]

/-! ## JOB_ACTIVATE (R109) -/

/-- An IDLE engine with no halt pending takes the head of the queue. -/
theorem takeHead_head {rest : List Job} (checks : State → State) (hq : s.eng.queue = j :: rest)
    (hs : s.eng.state = .idle) (hh : s.eng.haltPending = false) :
    takeHead checks s = checks (s.modEng fun g => g.activated j rest) := by
  unfold takeHead
  rw [hq]
  exact if_pos ⟨hs, hh⟩

theorem takeStartChecks_starting (hj : s.eng.active = some j) (hs : s.eng.state = .starting) :
    takeStartChecks s = match startVerdict (s.desc (ordIdx j.desc)) j with
      | .fail r => endActive (.failed r 0) s
      | .wait => s
      | .pass => s := by
  unfold takeStartChecks
  rw [hj]
  exact if_pos hs

/-- Settles O35: the head job, active in STARTING, meets the start checks as they stand. -/
theorem headJobTakesItsStartChecks : Obligations.HeadJobTakesItsStartChecks := by
  refine ⟨fun s j rest hq hs hh => ?_, fun x j => ⟨startVerdict_state, startVerdict_wait, fun hl hsw => ?_⟩⟩
  · have hexec : exec .jobActivate s = .next (takeStartChecks (s.modEng fun g => g.activated j rest)) :=
      congrArg _ (takeHead_head takeStartChecks hq hs hh)
    rw [hexec, takeStartChecks_starting rfl rfl]
    refine ⟨fun r hv => ?_, fun hpass => ?_⟩
    · simp only [State.modEng_desc, hv]; rfl
    · simp only [State.modEng_desc]
      split
      · next r hv => exact absurd hv (hpass r)
      · rfl
      · rfl
  · rw [startVerdict_settled hl hsw]
    refine ⟨fun hr => if_pos hr, fun hr => ?_⟩
    rw [if_neg hr]
    refine ⟨fun hover => if_pos (any_overlaps.2 hover), fun hapart => ?_⟩
    rw [if_neg fun hany => by
      obtain ⟨w, hw, ht, hover⟩ := any_overlaps.1 hany
      exact hapart w hw ht hover]
    refine ⟨fun hout => if_neg fun hfits => ?_, fun hin => if_pos (fits_iff.2 hin)⟩
    exact absurd (fits_iff.1 hfits) (Nat.not_le.2 hout)

/-! ## JOB_START (R110) -/

theorem beginJob_starting (hj : s.eng.active = some j) (hs : s.eng.state = .starting) :
    beginJob s = match startVerdict (s.desc (ordIdx j.desc)) j with
      | .fail r => endActive (.failed r 0) s
      | .wait => s
      | .pass => (s.modDesc (ordIdx j.desc) fun x => { x with state := .migrating }).modEng Engine.begun := by
  unfold beginJob
  rw [hj]
  exact if_pos hs

theorem beginJob_idle (h : s.eng.active = none ∨ s.eng.state ≠ .starting) : beginJob s = s := by
  unfold beginJob
  split
  · rfl
  · next hj => exact if_neg (h.resolve_left (by rw [hj]; nofun))

/-- Settles O36. -/
theorem passingJobStarts : Obligations.PassingJobStarts := by
  refine fun s => ⟨fun j hj hs => ?_, fun h => congrArg _ (beginJob_idle h)⟩
  have hexec : exec .jobStart s = .next (beginJob s) := rfl
  dsimp only
  rw [hexec, beginJob_starting hj hs]
  refine ⟨fun hv => ?_, fun r hv => ?_, fun hv => ?_⟩
  · rw [hv]; rfl
  · rw [hv]
  · rw [hv]

/-! ## The end of the active job (R111) -/

/-- Settles O40: what `endActive` does to each block. -/
theorem jobEndWritesItsOutcome : Obligations.JobEndWritesItsOutcome := by
  refine fun s j e hj => ⟨?_, fun c hc => ?_, endActive_flag e hj, endActive_route e, endActive_port e hj, ?_, fun m => ?_,
    surround_endActive e, endActive_freeDraws s e⟩
  · rw [endActive_desc s e hj, if_pos rfl]
  · rw [endActive_desc s e hj, if_neg hc]
  · rw [endActive_eng, if_neg (by rw [hj]; nofun), afterJob_eq]
  · rw [endActive_mon s e hj, endNotice_mon]

/-! ## The results of copy requests (R112, R126, R127, R134) -/

theorem copyResult_aborting (hs : s.eng.state = .aborting) (code : TargetCode) (data : List Byte) :
    copyResult code data s = s.modEng Engine.abortResult := if_pos hs

theorem copyResult_read (hs : s.eng.state ≠ .aborting) (hl : s.eng.lineStep = some .sourceRead) (data : List Byte) :
    copyResult .ok data s =
      (s.modEng Engine.answered).modEng fun g => { g with lineData := some data, lineStep := some .destWrite } := by
  rw [copyResult, if_neg hs, hl]; rfl

theorem copyResult_written (hs : s.eng.state ≠ .aborting) (hl : s.eng.lineStep = some .destWrite) (data : List Byte) :
    copyResult .ok data s = completeLine (s.modEng Engine.answered) := by
  rw [copyResult, if_neg hs, hl]; rfl

theorem copyResult_error (hs : s.eng.state ≠ .aborting)
    (hl : s.eng.lineStep = some .sourceRead ∨ s.eng.lineStep = some .destWrite) (data : List Byte) :
    copyResult .error data s = copyError (s.modEng Engine.answered) := by
  rw [copyResult, if_neg hs]
  rcases hl with h | h <;> rw [h] <;> rfl

/-- An ERROR below the limit leaves the line to a retry, and at the limit ends the job (R134). -/
theorem copyError_line {l : Nat} (hl : s.eng.lineInFlight = some l) : copyError s =
    if s.eng.retryCount < retryOf s.mgmt.retry then
      s.modEng fun g => { g with retryCount := g.retryCount + 1, lineData := none, lineStep := some .retryWait }
    else endActive (.failed .line l) s := by
  rw [copyError, hl]

theorem abortResult_eq (g : Engine) : g.abortResult =
    if 1 < g.outstanding then { g with outstanding := g.outstanding - 1 }
    else if g.haltPending = true then { g with outstanding := 0, state := .halted, haltPending := false }
    else { g with outstanding := 0, state := .idle } := by
  unfold Engine.abortResult
  dsimp only
  by_cases h : 1 < g.outstanding
  · rw [if_pos (by omega), if_pos h]
  · rw [if_neg (by omega), if_neg h, show g.outstanding - 1 = 0 by omega]

/-- The line in flight is complete: the cursor advances, the writes held on the line are released, and a pending halt is
taken or, at the line count, CUTOVER is entered (R127, R129). -/
theorem completeLine_line {l : Nat} (hj : s.eng.active = some j) (hl : s.eng.lineInFlight = some l) : completeLine s =
    let u := release (Hold.onLine (ordIdx j.desc) l) (s.modEng Engine.lineDone)
    if s.eng.haltPending = true then u.modEng fun g => { g with state := .halted, haltPending := false }
    else if s.eng.cursor + 1 = (s.desc (ordIdx j.desc)).lineCount then enterCutover u
    else u := by
  rw [completeLine, hj, hl]; rfl

/-- Settles O38. -/
theorem copyResultsCompleteOrRetryTheLine : Obligations.CopyResultsCompleteOrRetryTheLine := by
  refine ⟨fun s data => ⟨fun hs hl => copyResult_read hs hl data, fun l hs hline hl => ?_, fun code hs => ?_⟩,
    fun s data j l hs hj hline hl => ?_⟩
  · rw [copyResult_error hs hl, copyError_line (s := s.modEng Engine.answered) hline]
    exact ⟨fun hlt => if_pos hlt, fun hle => if_neg (Nat.not_lt.2 hle)⟩
  · rw [copyResult_aborting hs]
    exact congrArg (fun g => { s with eng := g }) (abortResult_eq s.eng)
  · exact (copyResult_written (by rw [hs]; nofun) hl data).trans (completeLine_line hj hline)

end Sys2Proof.Machine
end


section
/-! SUPPORT. CANCEL JOB, HALT ENGINE and RESUME ENGINE, case by case (R113 to R115, R117). -/

namespace Sys2Proof.Machine

variable {s t : State} {j : Job}

theorem endCommand_flag (e : CmdEnd) (c : EventClass) :
    (endCommand e s).isPending c = (s.isPending c || decide (c = .cmdDone)) := raise_flag ..

/-! ## CANCEL JOB (R113) -/

theorem exec_cancelJob : exec .cancelJob s = .next (writeCommand 0x08 cancelJobAct s) := rfl

/-- A queued job with the ID given is the one that CANCEL JOB finds. -/
theorem queuedJob_of_find {n : Nat} (h : s.eng.queue.find? (fun q => decide (q.id.toNat = n)) = some j) :
    n ≤ 255 ∧ queuedJob s (BitVec.ofNat 8 n) = some j := by
  have hid : j.id.toNat = n := by simpa using List.find?_some h
  have hn : n ≤ 255 := by have := j.id.isLt; omega
  refine ⟨hn, ?_⟩
  simp only [queuedJob, ofNat_eq_iff hn, h]

section
variable {n : Nat} (hn : bits (look s.mgmt.latched 0) 0 16 = n)
include hn

theorem cancelJobAct_queued (h : n ≤ 255) (hj : queuedJob s (BitVec.ofNat 8 n) = some j) :
    cancelJobAct s = finished (endQueued j .cancelled s) := by
  unfold cancelJobAct
  dsimp only
  rw [hn, if_neg (Nat.not_lt.2 h), hj]

theorem cancelJobAct_notFound (h : n ≤ 255) (hq : queuedJob s (BitVec.ofNat 8 n) = none)
    (ha : activeJob s (BitVec.ofNat 8 n) = none) : cancelJobAct s = refuse .notFound s := by
  unfold cancelJobAct
  dsimp only
  rw [hn, if_neg (Nat.not_lt.2 h), hq, ha]

/-- The active job ends from any state but CUTOVER. -/
theorem cancelJobAct_active (h : n ≤ 255) (hq : queuedJob s (BitVec.ofNat 8 n) = none)
    (ha : activeJob s (BitVec.ofNat 8 n) = some j) : cancelJobAct s =
      if s.eng.state = .cutover then refuse .late s else finished (endActive .cancelled s) := by
  unfold cancelJobAct
  dsimp only
  rw [hn, if_neg (Nat.not_lt.2 h), hq, ha]

end

/-- The flags after CANCEL JOB of a queued job (R111, R113). -/
theorem cancelled_queued_flag (c : EventClass) :
    (endCommand (.done []) (endQueued j .cancelled (latchCommand 0x08 s))).isPending c =
      (s.isPending c || decide (c = .jobAborted) || decide (c = .cmdDone)) := by
  rw [endCommand_flag, endQueued_isPending]; rfl

/-- Settles O43: the queue is searched before the active job is looked at. -/
theorem cancelJobEndsTheJob : Obligations.CancelJobEndsTheJob := by
  refine fun s hb => ⟨fun h => ?_, fun h hnone => ?_, fun j hj => ?_, fun j hj hid hq => ?_⟩
  · exact congrArg _ (writeCommand_refused hb (if_pos h))
  · have hqueue : queuedJob (latchCommand 0x08 s) (BitVec.ofNat 8 (bits (look s.mgmt.param 0) 0 16)) = none :=
      (queuedJob_eq_none h).2 fun q hq => hnone q (List.mem_append_left _ hq)
    have hactive : activeJob (latchCommand 0x08 s) (BitVec.ofNat 8 (bits (look s.mgmt.param 0) 0 16)) = none :=
      activeJob_eq_none h fun j hj => hnone j (List.mem_append_right _ (by
        rw [show s.eng.active = some j from hj]; exact List.mem_singleton.2 rfl))
    exact congrArg _ (writeCommand_refused hb (cancelJobAct_notFound rfl h hqueue hactive))
  · obtain ⟨h, hqueue⟩ := queuedJob_of_find hj
    refine ⟨endCommand (.done []) (endQueued j .cancelled (latchCommand 0x08 s)),
      congrArg _ (writeCommand_finished hb (cancelJobAct_queued rfl h hqueue)),
      endCommand_mgmt _ (endQueued_mgmt ..), endQueued_eng .., fun d => ?_, cancelled_queued_flag, fun m => ?_, ?_,
      endQueued_ports .., endQueued_tports .., endQueued_ticks .., endQueued_arrivals ..⟩
    · exact endQueued_desc _ j .cancelled d
    · rw [endCommand_mon, endQueued_mon, endNotice_mon]; rfl
    · rw [endCommand_route, endQueued_route]; rfl
  · have h : bits (look s.mgmt.param 0) 0 16 ≤ 255 := by have := j.id.isLt; omega
    have hqueue : queuedJob (latchCommand 0x08 s) (BitVec.ofNat 8 (bits (look s.mgmt.param 0) 0 16)) = none :=
      (queuedJob_eq_none h).2 hq
    have hactive : activeJob (latchCommand 0x08 s) (BitVec.ofNat 8 (bits (look s.mgmt.param 0) 0 16)) = some j :=
      activeJob_of_id h hj hid
    have hact := cancelJobAct_active (s := latchCommand 0x08 s) rfl h hqueue hactive
    exact ⟨fun hc => congrArg _ (writeCommand_refused hb (hact.trans (if_pos hc))),
      fun hc => congrArg _ (writeCommand_finished hb (hact.trans (if_neg hc)))⟩

/-! ## HALT ENGINE (R114) -/

theorem halt_refused {g : Engine} (h : g.state = .halted ∨ g.haltPending = true) : g.halt = none := by
  unfold Engine.halt
  split
  · rfl
  · next hp => rw [h.resolve_right hp]

theorem halt_atOnce {g : Engine} (hp : g.haltPending = false)
    (h : g.state = .idle ∨ g.state = .starting ∨ g.state = .copying ∧ g.lineInFlight = none) :
    g.halt = some { g with state := .halted } := by
  rw [Engine.halt, if_neg (by rw [hp]; nofun)]
  rcases h with h | h | ⟨h, hl⟩ <;> rw [h]
  rw [if_neg (by rw [hl]; nofun)]

theorem halt_noted {g : Engine} (hp : g.haltPending = false)
    (h : g.state = .copying ∧ g.lineInFlight ≠ none ∨ g.state = .cutover ∨ g.state = .aborting) :
    g.halt = some { g with haltPending := true } := by
  rw [Engine.halt, if_neg (by rw [hp]; nofun)]
  rcases h with ⟨h, hl⟩ | h | h <;> rw [h]
  rw [if_pos (Option.isSome_iff_ne_none.2 hl)]

/-- HALT ENGINE changes the engine's record alone. -/
theorem haltEngine_done {f : Engine → Engine} (hb : s.mgmt.busy = false) (h : s.eng.halt = some (f s.eng)) :
    exec .haltEngine s = .next ((commandEnded 0x0A (.done []) s).modEng f) := by
  have hact : haltEngineAct (latchCommand 0x0A s) = finished ((latchCommand 0x0A s).modEng f) := by
    rw [haltEngineAct, latchCommand_eng, h]; rfl
  exact congrArg _ (writeCommand_finished hb hact)

theorem haltEngine_refused (hb : s.mgmt.busy = false) (h : s.eng.state = .halted ∨ s.eng.haltPending = true) :
    exec .haltEngine s = .next (commandEnded 0x0A (.refused .state) s) := by
  refine congrArg _ (writeCommand_refused hb ?_)
  rw [haltEngineAct, latchCommand_eng, halt_refused h]

/-! ## RESUME ENGINE (R115) -/

theorem resumeEngine_refused (hb : s.mgmt.busy = false) (h : s.eng.state ≠ .halted) :
    exec .resumeEngine s = .next (commandEnded 0x0B (.refused .state) s) :=
  congrArg _ (writeCommand_refused hb (if_neg h))

theorem resumeEngine_done (hb : s.mgmt.busy = false) (h : s.eng.state = .halted)
    (ht : resumeEngine (latchCommand 0x0B s) = t) : exec .resumeEngine s = .next (endCommand (.done []) t) := by
  subst ht
  exact congrArg _ (writeCommand_finished hb (if_pos h))

/-- Without a job and with an empty queue the engine is IDLE. -/
theorem resumeEngine_empty (ha : s.eng.active = none) (hq : s.eng.queue = []) :
    resumeEngine s = s.modEng fun g => { g with state := .idle } := by
  rw [resumeEngine, ha]
  unfold activateAtOnce takeHead
  rw [State.modEng_eng, hq]

/-- Without a job the head of the queue becomes active at once (R109). -/
theorem resumeEngine_head {rest : List Job} (ha : s.eng.active = none) (hq : s.eng.queue = j :: rest)
    (hp : s.eng.haltPending = false) : resumeEngine s = beginJob (s.modEng fun g => g.activated j rest) := by
  rw [resumeEngine, ha]
  exact takeHead_head (s := s.modEng fun g => { g with state := .idle }) beginJob hq rfl hp

theorem resumeEngine_unstarted (ha : s.eng.active = some j) (hs : s.eng.started = false) :
    resumeEngine s = beginJob (s.modEng fun g => { g with state := .starting }) := by
  rw [resumeEngine, ha]
  exact if_neg (by rw [hs]; nofun)

theorem resumeEngine_started (ha : s.eng.active = some j) (hs : s.eng.started = true) : resumeEngine s =
    if s.eng.cursor = (s.desc (ordIdx j.desc)).lineCount then enterCutover (s.modEng fun g => { g with state := .copying })
    else s.modEng fun g => { g with state := .copying } := by
  rw [resumeEngine, ha]
  exact if_pos hs

/-- Settles O44. -/
theorem haltStopsAndResumeGoesOn : Obligations.HaltStopsAndResumeGoesOn := by
  refine ⟨fun s hb => ⟨haltEngine_refused hb, fun hp => ⟨fun h => ?_, fun h => ?_⟩⟩,
    fun s hb => ⟨resumeEngine_refused hb, fun hs => ⟨fun ha => ⟨fun hq => ?_, fun j rest hq hp => ?_⟩, fun j ha =>
      ⟨fun hst => ?_, fun hst hc => ?_, fun hst hc => ?_⟩⟩⟩⟩
  · exact haltEngine_done (f := fun g => { g with state := .halted }) hb (halt_atOnce hp h)
  · exact haltEngine_done (f := fun g => { g with haltPending := true }) hb (halt_noted hp h)
  · exact resumeEngine_done hb hs (resumeEngine_empty ha hq)
  · exact ⟨_, rfl, resumeEngine_done hb hs (resumeEngine_head ha hq hp)⟩
  · exact ⟨_, rfl, resumeEngine_done hb hs (resumeEngine_unstarted ha hst)⟩
  · exact resumeEngine_done hb hs ((resumeEngine_started (s := latchCommand 0x0B s) ha hst).trans (if_neg hc))
  · exact resumeEngine_done hb hs ((resumeEngine_started (s := latchCommand 0x0B s) ha hst).trans (if_pos hc))

end Sys2Proof.Machine
end


section
/-! SUPPORT. QUEUE MIGRATION: its parameter words, the checks of an enqueue in their order, and the job it forms, active at
once on an IDLE engine with an empty queue (R103, R105, R109, R110). -/

namespace Sys2Proof.Machine

variable {s : State} {p : Vector Word 6} {d : Fin 64} {dest : Window} {mode : Mode}

/-! ## The parameter words (R105 check 1, R176) -/

theorem windowOf_of_fields {target base : Nat} (w : Window) (ht : target = w.target.val) (hb : base = w.base.toNat) :
    windowOf target base = some w := by
  subst ht hb
  rw [windowOf, dif_pos w.target.isLt, if_pos w.base.isLt, BitVec.ofNat_toNat, BitVec.setWidth_eq]

theorem modeOfCode_eq_none {c : Nat} (h : 1 < c) : modeOfCode c = none := by
  rw [modeOfCode, if_neg (by omega), if_neg (by omega)]

theorem modeOfCode_of_code {c : Nat} (m : Mode) (h : c = modeCode m) : modeOfCode c = some m := by
  subst h; cases m <;> rfl

theorem parseMigration_none (h : 64 < paramIndex p ∨ 3 < bits (look p 0) 8 8 ∨ 2 ^ 28 ≤ (look p 1).toNat ∨
    1 < bits (look p 0) 16 8) : parseMigration p = none := by
  unfold parseMigration
  split
  · next hidx =>
    rcases h with h | h | h | h
    · omega
    · rw [(windowOf_eq_none _ _).2 (.inl h)]
    · rw [(windowOf_eq_none _ _).2 (.inr h)]
    · rw [modeOfCode_eq_none h]; split
      · next hm => cases hm
      · rfl
  · rfl

theorem parseMigration_some {e : DescIdx} (hd : paramIndex p = e.val) (ht : bits (look p 0) 8 8 = dest.target.val)
    (hb : (look p 1).toNat = dest.base.toNat) (hm : bits (look p 0) 16 8 = modeCode mode) :
    parseMigration p = some (e, dest, mode) := by
  have hidx : paramIndex p < 65 := hd ▸ e.isLt
  rw [parseMigration, dif_pos hidx, windowOf_of_fields dest ht hb, modeOfCode_of_code mode hm]
  exact congrArg (fun i => some (i, dest, mode)) (Fin.ext hd)

/-! ## The checks of an enqueue (R105 checks 2 to 8) -/

theorem any_desc_iff {l : List Job} : l.any (fun j => decide (j.desc = d)) = true ↔ ∃ j ∈ l, j.desc = d := by
  simp only [List.any_eq_true, decide_eq_true_eq]

/-- The checks in order, as R105 states their conditions. -/
theorem enqueueRefusal_eq (s : State) (d : Fin 64) (dest : Window) : enqueueRefusal s d dest =
    let x := s.desc (ordIdx d)
    if x.state ≠ .live then some .state
    else if 8 ≤ s.eng.queue.length then some .full
    else if ∃ j ∈ s.eng.jobs, j.desc = d then some .duplicate
    else if x.read = .fault then some .route
    else if dest.base.toNat % 4096 ≠ 0 then some .align
    else if 2 ^ 28 < dest.base.toNat + 2 ^ x.size then some .range
    else if ∃ w ∈ x.windows, w.target = dest.target ∧ w.base.toNat < dest.base.toNat + 2 ^ x.size ∧
        dest.base.toNat < w.base.toNat + 2 ^ x.size then some .overlap
    else none := by
  have halign : (!dest.aligned) = true ↔ dest.base.toNat % 4096 ≠ 0 := by
    rw [Bool.not_eq_true', Window.aligned, decide_eq_false_iff_not]
  have hrange : (!dest.fits (s.desc (ordIdx d)).size) = true ↔
      2 ^ 28 < dest.base.toNat + 2 ^ (s.desc (ordIdx d)).size := by
    rw [Bool.not_eq_true', ← Bool.not_eq_true, fits_iff, Nat.not_le]
  unfold enqueueRefusal
  exact if_congr .rfl rfl <| if_congr .rfl rfl <| if_congr any_desc_iff rfl <| if_congr .rfl rfl <|
    if_congr halign rfl <| if_congr hrange rfl <| if_congr any_overlaps rfl rfl

/-- A descriptor that passes the checks of an enqueue passes those of a start, unless it is switching (R105, R110). -/
theorem startVerdict_of_enqueued (h : enqueueRefusal s d dest = none) (id : BitVec 8) (o : Origin) :
    startVerdict (s.desc (ordIdx d)) ⟨id, d, dest, mode, o⟩ =
      if (s.desc (ordIdx d)).switching = true then .wait else .pass := by
  obtain ⟨hlive, _, _, hread, hfits, hover⟩ := enqueueRefusal_none h
  rw [startVerdict, if_neg (not_not.2 hlive), if_neg hread, if_neg (Bool.eq_false_iff.1 hover), if_pos hfits]

/-! ## The job formed (R105, R109, R110) -/

/-- The job that an enqueue forms joins the tail of the queue. -/
theorem enqueue_queue (o : Origin) :
    (enqueue d dest mode o s).eng.queue = s.eng.queue ++ [⟨newJobId s, d, dest, mode, o⟩] := rfl

/-- The head job of an engine that is not IDLE, or has a halt pending, stays queued (R109). -/
theorem takeHead_stays {checks : State → State} (h : ¬(s.eng.state = .idle ∧ s.eng.haltPending = false)) :
    takeHead checks s = s := by
  unfold takeHead
  split
  · rfl
  · exact if_neg h

theorem enqueueAtOnce_queued (h : ¬(s.eng.queue = [] ∧ s.eng.state = .idle ∧ s.eng.haltPending = false)) :
    enqueueAtOnce d dest mode s = enqueue d dest mode .software s := by
  unfold enqueueAtOnce
  split
  · next hq => exact takeHead_stays fun hs => h ⟨List.isEmpty_iff.1 hq, hs⟩
  · rfl

/-- The engine whose first job has just been formed and is active (R105). -/
def Engine.formed (g : Engine) (j : Job) : Engine :=
  { g with active := some j, started := false, state := .starting, nextJobId := j.id + 1 }

/-- On an IDLE engine with an empty queue the job formed is active at once, and meets JOB_START. -/
theorem enqueueAtOnce_active (hq : s.eng.queue = []) (hs : s.eng.state = .idle) (hp : s.eng.haltPending = false) :
    enqueueAtOnce d dest mode s = beginJob (s.modEng fun g => g.formed ⟨newJobId s, d, dest, mode, .software⟩) := by
  have hqueue : (enqueue d dest mode .software s).eng.queue = [⟨newJobId s, d, dest, mode, .software⟩] := by
    rw [enqueue_queue, hq]; rfl
  have hhead : activateAtOnce (enqueue d dest mode .software s) = beginJob ((enqueue d dest mode .software s).modEng
      fun g => g.activated ⟨newJobId s, d, dest, mode, .software⟩ []) := takeHead_head beginJob hqueue hs hp
  have heng : (enqueue d dest mode .software s).eng.activated ⟨newJobId s, d, dest, mode, .software⟩ [] =
      s.eng.formed ⟨newJobId s, d, dest, mode, .software⟩ := by
    simp only [Engine.formed, Engine.activated, enqueue, State.modEng_eng, ← hq]
  rw [enqueueAtOnce, if_pos (List.isEmpty_iff.2 hq), hhead]
  exact congrArg (fun g => beginJob { s with eng := g }) heng

/-- The state in which the job that QUEUE MIGRATION forms is placed, as R105, R109 and R110 say. -/
theorem enqueueAtOnce_eq (h : enqueueRefusal s d dest = none) : enqueueAtOnce d dest mode s =
    let j : Job := ⟨newJobId s, d, dest, mode, .software⟩
    if s.eng.queue = [] ∧ s.eng.state = .idle ∧ s.eng.haltPending = false then
      if (s.desc (ordIdx d)).switching = true then s.modEng fun g => g.formed j
      else (s.modDesc (ordIdx d) fun x => { x with state := .migrating }).modEng fun g => (g.formed j).begun
    else enqueue d dest mode .software s := by
  dsimp only
  by_cases hidle : s.eng.queue = [] ∧ s.eng.state = .idle ∧ s.eng.haltPending = false
  · obtain ⟨hq, hs, hp⟩ := hidle
    rw [if_pos ⟨hq, hs, hp⟩, enqueueAtOnce_active hq hs hp, beginJob_starting rfl rfl, State.modEng_desc,
      startVerdict_of_enqueued h]
    by_cases hsw : (s.desc (ordIdx d)).switching = true
    · rw [if_pos hsw, if_pos hsw]
    · rw [if_neg hsw, if_neg hsw]; rfl
  · rw [if_neg hidle, enqueueAtOnce_queued hidle]

/-! ## The command -/

theorem queueMigration_unparsed (hb : s.mgmt.busy = false) (hp : parseMigration s.mgmt.param = none) :
    exec .queueMigration s = .next (commandEnded 0x07 (.refused .range) s) := by
  refine congrArg _ (writeCommand_refused hb ?_)
  rw [queueMigrationAct, latchCommand_latched, hp]

theorem queueMigration_floor (hb : s.mgmt.busy = false) (hp : parseMigration s.mgmt.param = some (floorIdx, dest, mode)) :
    exec .queueMigration s = .next (commandEnded 0x07 (.refused .state) s) := by
  refine congrArg _ (writeCommand_refused hb ?_)
  rw [queueMigrationAct, latchCommand_latched, hp]
  exact dif_neg (Nat.lt_irrefl 64)

theorem queueMigrationAct_eq (hp : parseMigration s.mgmt.latched = some (ordIdx d, dest, mode)) : queueMigrationAct s =
    match enqueueRefusal s d dest with
    | some r => refuse r s
    | none => ends (.done [place (newJobId s).toNat 0]) (enqueueAtOnce d dest mode s) := by
  rw [queueMigrationAct, hp]
  exact dif_pos d.isLt

section
variable (hb : s.mgmt.busy = false) (hp : parseMigration s.mgmt.param = some (ordIdx d, dest, mode))
include hb hp

theorem queueMigration_refused {r : Reason} (h : enqueueRefusal s d dest = some r) :
    exec .queueMigration s = .next (commandEnded 0x07 (.refused r) s) := by
  have hr : enqueueRefusal (latchCommand 0x07 s) d dest = some r := h
  exact congrArg _ (writeCommand_refused hb (by rw [queueMigrationAct_eq (s := latchCommand 0x07 s) hp, hr]))

/-- A request that passes the checks returns the ID of the job formed, which is queued or active as `enqueueAtOnce_eq`
says. -/
theorem queueMigration_formed (h : enqueueRefusal s d dest = none) : exec .queueMigration s = .next (
    let j : Job := ⟨newJobId s, d, dest, mode, .software⟩
    let v := commandEnded 0x07 (.done [place j.id.toNat 0]) s
    if s.eng.queue = [] ∧ s.eng.state = .idle ∧ s.eng.haltPending = false then
      if (s.desc (ordIdx d)).switching = true then v.modEng fun g => g.formed j
      else (v.modDesc (ordIdx d) fun x => { x with state := .migrating }).modEng fun g => (g.formed j).begun
    else enqueue d dest mode .software v) := by
  have hr : enqueueRefusal (latchCommand 0x07 s) d dest = none := h
  have hact : queueMigrationAct (latchCommand 0x07 s) =
      ends (.done [place (newJobId s).toNat 0]) (enqueueAtOnce d dest mode (latchCommand 0x07 s)) := by
    rw [queueMigrationAct_eq (s := latchCommand 0x07 s) hp, hr]; rfl
  refine congrArg _ ((writeCommand_taken s hb hact).trans ?_)
  rw [enqueueAtOnce_eq hr]
  exact (apply_ite (endCommand _) _ _ _).trans (if_congr .rfl (apply_ite (endCommand _) _ _ _) rfl)

/-- One check of the enqueue: the command is refused for it, or goes on to the checks that follow. -/
theorem queueMigration_check {c : Prop} [Decidable c] {r : Reason} {o : Option Reason} {t : State}
    (hrest : enqueueRefusal s d dest = o → exec .queueMigration s = .next t)
    (h : enqueueRefusal s d dest = if c then some r else o) :
    exec .queueMigration s = .next (if c then commandEnded 0x07 (.refused r) s else t) := by
  split
  · next hc => exact queueMigration_refused hb hp (h.trans (if_pos hc))
  · next hc => exact hrest (h.trans (if_neg hc))

end

/-- Settles O42: the conditions of `enqueueRefusal_eq` are gone through one after another. -/
theorem queueMigrationChecksThenQueues : Obligations.QueueMigrationChecksThenQueues := by
  refine ⟨fun s hb => ⟨fun h => queueMigration_unparsed hb (parseMigration_none h), fun hd ht hbase hm => ?_,
    fun d dest mode hd ht hbase hm => ?_⟩, fun s h => newJobId_spec h⟩
  · obtain ⟨mode, hmode⟩ : ∃ mode : Mode, bits (look s.mgmt.param 0) 16 8 = modeCode mode := by
      rcases Nat.le_one_iff_eq_zero_or_eq_one.1 hm with h | h
      · exact ⟨.move, h⟩
      · exact ⟨.shadow, h⟩
    have hword : (look s.mgmt.param 1).toNat = (BitVec.ofNat 28 (look s.mgmt.param 1).toNat).toNat := by
      rw [BitVec.toNat_ofNat, Nat.mod_eq_of_lt hbase]
    exact queueMigration_floor hb (parseMigration_some
      (dest := ⟨⟨bits (look s.mgmt.param 0) 8 8, Nat.lt_succ_of_le ht⟩, _⟩) hd rfl hword hmode)
  · have hp : parseMigration s.mgmt.param = some (ordIdx d, dest, mode) :=
      parseMigration_some hd ht hbase (hm.trans (modeCode_eq mode).symm)
    have check {c : Prop} [Decidable c] {r : Reason} {o : Option Reason} {t : State} :=
      queueMigration_check (c := c) (r := r) (o := o) (t := t) hb hp
    exact check (check (check (check (check (check (check fun hr => queueMigration_formed hb hp hr))))))
      (enqueueRefusal_eq s d dest)

end Sys2Proof.Machine
end


section
/-! SUPPORT. GO_IDLE: a monitor's requests leave its count and its selected source alone, and a monitor has none on its way
when it has finished them; and the idle enqueue at the engine (R106, R146, R149). -/

namespace Sys2Proof.Machine

variable {s : State} {m : Fin 16}

/-! ## A monitor's record as the engine takes its requests -/

/-- The end of a queued job changes at most a monitor's idle job (R151). -/
theorem endQueued_mon_eq (j : Job) (e : Ending) (m : Fin 16) :
    ∃ o, (endQueued j e s).mon m = { s.mon m with idleJob := o } := by
  rw [endQueued_mon]
  rcases endNotice_mon_eq s j m with h | h
  · exact ⟨(s.mon m).idleJob, h⟩
  · exact ⟨none, h⟩

theorem monitorEnqueue_mon (w : Template) (o : Origin) (n : Fin 16) : (monitorEnqueue m w o s).1.mon n = s.mon n := by
  unfold monitorEnqueue
  split <;> rfl

/-- The idle enqueue changes at most the idle job (R149). -/
theorem takeIdleAsk_mon : ∃ o, (takeIdleAsk m s).mon m = { s.mon m with idleJob := o } := by
  unfold takeIdleAsk
  split
  · exact ⟨(s.mon m).idleJob, rfl⟩
  · next w _ =>
    have h := monitorEnqueue_mon (s := s) (m := m) w (.monitorIdle m) m
    split
    · next he => rw [he] at h; exact ⟨_, by rw [State.modMon_mon_self, h]⟩
    · next he => rw [he] at h; exact ⟨(s.mon m).idleJob, h⟩

theorem takeWakeAsk_mon : (takeWakeAsk m s).mon m = s.mon m := by
  unfold takeWakeAsk
  split
  · rfl
  · exact monitorEnqueue_mon ..

/-- What the engine's taking of a request changes of its monitor: the idle job, and the request, which is gone or, after a
withdrawal, the wake enqueue (R149, R150). -/
theorem takeAsk_mon (s : State) (m : Fin 16) :
    ∃ a o, (takeAsk m s).mon m = { s.mon m with ask := a, idleJob := o } ∧
      (a = none ∨ (∃ id, (s.mon m).ask = some (.withdraw id)) ∧ a = (s.mon m).wakeAsk) := by
  unfold takeAsk
  dsimp only
  split
  · next h => exact ⟨none, (s.mon m).idleJob, by rw [← h], .inl rfl⟩
  · obtain ⟨o, ho⟩ := takeIdleAsk_mon (s := s.modMon m fun x => { x with ask := none }) (m := m)
    exact ⟨none, o, by rw [ho, State.modMon_mon_self], .inl rfl⟩
  · next id h =>
    unfold takeWithdrawal
    split
    · next j _ =>
      obtain ⟨o, ho⟩ := endQueued_mon_eq (s := s.modMon m fun x => { x with ask := none }) j .withdrawn m
      exact ⟨none, none, by rw [State.modMon_mon_self, ho, State.modMon_mon_self], .inl rfl⟩
    · exact ⟨(s.mon m).wakeAsk, (s.mon m).idleJob, by rw [modMon_modMon, State.modMon_mon_self]; rfl, .inr ⟨⟨id, h⟩, rfl⟩⟩
  · exact ⟨none, (s.mon m).idleJob, by rw [takeWakeAsk_mon, State.modMon_mon_self], .inl rfl⟩

/-- A monitor that has finished its requests has none on its way. -/
theorem finishAsks_ask : ((finishAsks m s).mon m).ask = none := by
  obtain ⟨a, o, hfirst, ha⟩ := takeAsk_mon s m
  obtain ⟨b, q, hsecond, hb⟩ := takeAsk_mon (takeAsk m s) m
  have hlast : ((finishAsks m s).mon m).ask = b := by rw [finishAsks, hsecond]
  have hmid : ((takeAsk m s).mon m).ask = a := by rw [hfirst]
  rw [hlast]
  rcases hb with rfl | ⟨⟨id, hid⟩, _⟩
  · rfl
  · rw [hmid] at hid
    rcases ha with rfl | ⟨_, rfl⟩
    · cases hid
    · unfold Monitor.wakeAsk at hid
      split at hid <;> cases hid

/-- To finish the requests of which one has been taken is to finish them all. -/
theorem finishAsks_takeAsk : finishAsks m (takeAsk m s) = finishAsks m s := takeAsk_none finishAsks_ask

theorem finishAsks_none (h : (s.mon m).ask = none) : finishAsks m s = s := by
  rw [finishAsks, takeAsk_none h, takeAsk_none h]

/-! ## The requests beside the arrivals

What is on its way to the monitors makes no difference to the requests. -/

/-- The state with other arrivals on their way. -/
def State.withArrivals (s : State) (l : List Arrival) : State := { s with arrivals := l }

theorem endQueued_withArrivals (l : List Arrival) (j : Job) (e : Ending) :
    endQueued j e (s.withArrivals l) = (endQueued j e s).withArrivals l := by
  unfold endQueued endNotice
  cases j.origin <;> rfl

theorem monitorEnqueue_withArrivals (l : List Arrival) (w : Template) (o : Origin) :
    monitorEnqueue m w o (s.withArrivals l) =
      ((monitorEnqueue m w o s).1.withArrivals l, (monitorEnqueue m w o s).2) := by
  have h : enqueueRefusal (s.withArrivals l) ((s.withArrivals l).mon m).subject w.dest =
      enqueueRefusal s (s.mon m).subject w.dest := rfl
  unfold monitorEnqueue
  rw [h]
  split <;> rfl

theorem takeIdleAsk_withArrivals (l : List Arrival) :
    takeIdleAsk m (s.withArrivals l) = (takeIdleAsk m s).withArrivals l := by
  have h : ((s.withArrivals l).mon m).idleT = (s.mon m).idleT := rfl
  unfold takeIdleAsk
  rw [h]
  split
  · rfl
  · rw [monitorEnqueue_withArrivals]
    rcases monitorEnqueue m _ _ s with ⟨t, _ | id⟩ <;> rfl

theorem takeWakeAsk_withArrivals (l : List Arrival) :
    takeWakeAsk m (s.withArrivals l) = (takeWakeAsk m s).withArrivals l := by
  have h : ((s.withArrivals l).mon m).wakeT = (s.mon m).wakeT := rfl
  unfold takeWakeAsk
  rw [h]
  split
  · rfl
  · rw [monitorEnqueue_withArrivals]

theorem takeWithdrawal_withArrivals (l : List Arrival) (id : BitVec 8) :
    takeWithdrawal m id (s.withArrivals l) = (takeWithdrawal m id s).withArrivals l := by
  have h : queuedJob (s.withArrivals l) id = queuedJob s id := rfl
  unfold takeWithdrawal
  rw [h]
  split
  · rw [endQueued_withArrivals]; rfl
  · rfl

theorem takeAsk_withArrivals (l : List Arrival) : takeAsk m (s.withArrivals l) = (takeAsk m s).withArrivals l := by
  have hask : ((s.withArrivals l).mon m).ask = (s.mon m).ask := rfl
  have h (f : Monitor → Monitor) : (s.withArrivals l).modMon m f = (s.modMon m f).withArrivals l := rfl
  unfold takeAsk
  dsimp only
  rw [hask, h]
  split
  · rfl
  · exact takeIdleAsk_withArrivals l
  · exact takeWithdrawal_withArrivals l _
  · exact takeWakeAsk_withArrivals l

/-! ## GO_IDLE (R149) -/

/-- The state less the tick of its source that is on its way to a monitor. -/
def State.tickTaken (s : State) (m : Fin 16) : State :=
  s.withArrivals (s.arrivals.erase (.tick m (s.mon m).tickSel))

/-- A monitor that counts at 1 finishes its requests and goes idle. -/
theorem exec_goIdle (hs : (s.mon m).state = .counting) (hc : (s.mon m).count = 1) :
    exec (.goIdle m) s = .next (goIdle m (finishAsks m (s.tickTaken m))) := congrArg _ (if_pos ⟨hs, hc⟩)

theorem takeAsk_tickTaken : (takeAsk m s).tickTaken m = takeAsk m (s.tickTaken m) := by
  obtain ⟨a, o, hmon, _⟩ := takeAsk_mon s m
  have harrivals : (takeAsk m s).arrivals = s.arrivals := (surround_takeAsk m).2.2.2.1
  rw [State.tickTaken, State.tickTaken, takeAsk_withArrivals, harrivals, hmon]

/-! ## The idle enqueue at the engine (R106) -/

section
variable {w : Template} (hask : (s.mon m).ask = some .idle) (hw : (s.mon m).idleT = some w)
include hask hw

/-- An idle enqueue that a check refuses sets QUEUE_REFUSED (R106). -/
theorem takeAsk_idle_refused {r : Reason} (hr : enqueueRefusal s (s.mon m).subject w.dest = some r) :
    takeAsk m s = raise .queueRefused (s.modMon m fun x => { x with ask := none }) := by
  simp only [takeAsk, hask, takeIdleAsk, State.modMon_mon_self, hw, monitorEnqueue, enqueueRefusal_modMon, hr]

/-- An idle enqueue that passes the checks forms a job, whose ID is the idle job (R103, R106, R149). -/
theorem takeAsk_idle_queued (hr : enqueueRefusal s (s.mon m).subject w.dest = none) : takeAsk m s =
    (enqueue (s.mon m).subject w.dest w.mode (.monitorIdle m) s).modMon m
      fun x => { x with ask := none, idleJob := some (newJobId s) } := by
  have hformed : enqueue (s.mon m).subject w.dest w.mode (.monitorIdle m) (s.modMon m fun x => { x with ask := none }) =
      (enqueue (s.mon m).subject w.dest w.mode (.monitorIdle m) s).modMon m fun x => { x with ask := none } := rfl
  simp only [takeAsk, hask, takeIdleAsk, State.modMon_mon_self, hw, monitorEnqueue, enqueueRefusal_modMon, hr]
  rw [hformed, modMon_modMon]
  rfl

end

/-- Settles O48: a request still on its way is taken first, whether it is GO_IDLE that finds it or not. -/
theorem monitorGoesIdle : Obligations.MonitorGoesIdle := by
  refine ⟨fun m s hs hc => ⟨fun hask => ?_, fun _ => ?_⟩,
    fun m s w hask hw => ⟨fun r => takeAsk_idle_refused hask hw, takeAsk_idle_queued hask hw⟩⟩
  · rw [exec_goIdle hs hc, finishAsks_none (s := s.tickTaken m) hask]
    rfl
  · obtain ⟨a, o, hmon, _⟩ := takeAsk_mon s m
    have htaken : exec (.goIdle m) (takeAsk m s) = .next (goIdle m (finishAsks m ((takeAsk m s).tickTaken m))) :=
      exec_goIdle (by rw [hmon]; exact hs) (by rw [hmon]; exact hc)
    calc exec (.goIdle m) s
      _ = .next (goIdle m (finishAsks m (s.tickTaken m))) := exec_goIdle hs hc
      _ = .next (goIdle m (finishAsks m ((takeAsk m s).tickTaken m))) := by rw [takeAsk_tickTaken, finishAsks_takeAsk]
      _ = exec (.goIdle m) (takeEvent (.ask m) s) := htaken.symm

end Sys2Proof.Machine
end

section
/-! SUPPORT. Credits: the fields of BUDGET and RETRY that their words keep, and what the engine makes of them (R131, R133,
R134, R179). -/

namespace Sys2Proof.Machine

variable {s : State}

/-- A mask of the low bits of a word leaves each field within them. -/
theorem bits_and_low {lo len n : Nat} (h : lo + len ≤ n) (hn : n ≤ 32) (v : Word) :
    bits (v &&& place (2 ^ n - 1) 0) lo len = bits v lo len := by
  apply Nat.eq_of_testBit_eq
  intro i
  simp only [bits, Nat.testBit_mod_two_pow, Nat.testBit_shiftRight, BitVec.testBit_toNat, BitVec.getLsbD_and,
    getLsbD_place, Nat.testBit_two_pow_sub_one]
  by_cases hi : i < len
  · have hkept : lo + i < n := by omega
    have hword : lo + i < 32 := by omega
    simp [hi, hkept, hword]
  · simp [hi]

/-- BUDGET keeps PERIOD and CREDITS, bits 13:0 (R179). -/
theorem budgetWord_eq (v : Word) : budgetWord v = v &&& 0x3FFF := by
  rw [budgetWord, place_bits, and_or_place_bits]
  rfl

theorem budgetWord_period (v : Word) : bits (budgetWord v) 0 8 = bits v 0 8 := by
  rw [budgetWord_eq]
  exact bits_and_low (n := 14) (by decide) (by decide) v

theorem budgetWord_credits (v : Word) : bits (budgetWord v) 8 6 = bits v 8 6 := by
  rw [budgetWord_eq]
  exact bits_and_low (n := 14) (by decide) (by decide) v

/-- A BUDGET write by the fields of the word written (R133, R179). -/
theorem writeBudget_eq (v : Word) : writeBudget v s = { s with
    mgmt := { s.mgmt with budget := v &&& 0x3FFF }
    eng := { s.eng with
      budgetTimer := if bits v 0 8 = bits s.mgmt.budget 0 8 then s.eng.budgetTimer else periodOf v
      credits := if creditsOf v < creditsOf s.mgmt.budget then min s.eng.credits (creditsOf v) else s.eng.credits } } := by
  simp only [writeBudget, creditsOf, periodOf, budgetWord_period, budgetWord_credits]
  rw [budgetWord_eq]
  rfl

/-- A RETRY write keeps the limit, bits 1:0 (R134, R179). -/
theorem writeRetry_eq (v : Word) : writeRetry v s = { s with mgmt := { s.mgmt with retry := v &&& 3 } } := by
  rw [writeRetry, place_bits]
  rfl

/-- Settles O45: the two words keep their fields, and the engine reads no other bits of them. -/
theorem creditsComeFromTheBudget : Obligations.CreditsComeFromTheBudget :=
  ⟨fun _ => rfl, fun v _ => congrArg Host.Outcome.next (writeBudget_eq v),
    fun v _ => congrArg Host.Outcome.next (writeRetry_eq v)⟩

end Sys2Proof.Machine
end

section
/-! SUPPORT. The report of a failed DESTINATION leg: which job it ends, and what the slot then does (R74, R75, R80,
R136). -/

namespace Sys2Proof.Machine

variable {s : State} {i : Fin 4} {k : Fin 8} {c : Counted} {l : Leg} {j : Job}

theorem covers_iff {w : Window} {size : Nat} {t : Fin 4} {a : Addr} : w.covers size t a = true ↔
    w.target = t ∧ w.base.toNat ≤ a.toNat ∧ a.toNat < w.base.toNat + 2 ^ size := by
  simp [Window.covers, and_assoc]

/-- The job copies the counted descriptor, and the failed leg wrote into its destination window (R136). -/
def Job.failsOn (j : Job) (c : Counted) (l : Leg) (s : State) : Prop :=
  ordIdx j.desc = c.index ∧ s.eng.started = true ∧ (s.eng.state = .copying ∨ s.eng.state = .halted) ∧
    j.dest.target = l.target ∧ j.dest.base.toNat ≤ l.addr.toNat ∧
    l.addr.toNat < j.dest.base.toNat + 2 ^ (s.desc c.index).size

/-- The report ends the job that the leg fails (R136). -/
theorem mirrorReport_ends (hj : s.eng.active = some j) (h : j.failsOn c l s) :
    mirrorReport c l s = endActive (.failed .mirror c.line) s := by
  obtain ⟨hd, hst, hrun, hwin⟩ := h
  rw [mirrorReport, hj]
  exact if_pos ⟨hd, hst, hrun, covers_iff.2 hwin⟩

/-- The report is ignored when the leg fails no job (R136). -/
theorem mirrorReport_ignored (h : ∀ j, s.eng.active = some j → ¬j.failsOn c l s) : mirrorReport c l s = s := by
  unfold mirrorReport
  split
  · rfl
  · next j hj => exact if_neg fun ⟨hd, hst, hrun, hwin⟩ => h j hj ⟨hd, hst, hrun, covers_iff.1 hwin⟩

/-- The state when an ERROR of the DESTINATION leg has been recorded in its slot (R74). -/
def State.destFailed (s : State) (i : Fin 4) (k : Fin 8) : State :=
  s.modSlot i k fun sl => { sl with legs := setLegStatus .destination .error sl.legs }

/-- A failed DESTINATION leg is recorded, reported, and its slot finished if it was the last (R74). -/
theorem legResult_destFailed (data : List Byte) (hc : (s.slot i k).counted = some c)
    (hl : (setLegStatus .destination .error (s.slot i k).legs).find? (fun l => decide (l.role = .destination)) = some l) :
    legResult i k .destination .error data s = finishSlot i k (mirrorReport c l (s.destFailed i k)) := by
  have hreport : reportMirror i k .destination (s.destFailed i k) = mirrorReport c l (s.destFailed i k) := by
    simp only [reportMirror, State.destFailed, State.modSlot_slot_self, hc, hl]
  rw [← hreport]
  rfl

/-- A slot that is neither ISSUED nor ORPHANED is not finished (R75, R80). -/
theorem finishSlot_unissued (h : (s.slot i k).state = .free ∨ (s.slot i k).state = .held ∨ (s.slot i k).state = .waiting) :
    finishSlot i k s = s := by
  unfold finishSlot
  dsimp only
  split
  · rcases h with h | h | h <;> rw [h]
  · rfl

/-- Settles O41, by whether the leg fails the active job, and by the state of the slot. -/
theorem mirrorFailureEndsTheJob : Obligations.MirrorFailureEndsTheJob := by
  refine ⟨fun i k data s c l hc hl => ?_, fun i k s => ⟨finishSlot_unfinished, fun hfin => ⟨fun hs => ?_, fun hs => ?_,
    finishSlot_unissued⟩⟩⟩
  · have hresult := legResult_destFailed data hc hl
    refine ⟨fun j hj hd hst hrun ht hlo hhi => ?_, fun hnone => ?_⟩
    · rw [mirrorReport_ends (s := s.destFailed i k) hj ⟨hd, hst, hrun, ht, hlo, hhi⟩] at hresult
      exact hresult
    · rw [mirrorReport_ignored (s := s.destFailed i k) hnone] at hresult
      exact hresult
  · have hissued : (s.slot i k).state = .issued := hs
    rw [finishSlot_issued hfin hs, legsAnswer_eq, formResponse, ← hissued]
    rfl
  · rw [finishSlot_orphaned hfin hs, freeOrphan]
    simp only [wakeFromReset_eq]

end Sys2Proof.Machine
end

section
/-! SUPPORT. The line at the cursor: the conditions under which it, or a retry of it, begins (R123, R134), and the copy
requests that it makes (R122). -/

namespace Sys2Proof.Machine

variable {s : State} {j : Job}

/-! ## The conditions of a line (R123, R134) -/

theorem creditOk_iff : s.creditOk = true ↔ creditsOf s.mgmt.budget = 0 ∨ 1 ≤ s.eng.credits := by
  simp [State.creditOk]

theorem showsWrite_iff {d : DescIdx} {line : Nat} {sl : Slot} : sl.showsWrite d line = true ↔
    ∃ c, sl.state = .waiting ∧ sl.dir = .write ∧ sl.counted = some c ∧ c.index = d ∧ c.line = line := by
  cases hc : sl.counted with
  | none => simp [Slot.showsWrite, hc]
  | some c => simp [Slot.showsWrite, hc, and_assoc]

theorem writeWaiting_iff {d : DescIdx} {line : Nat} : s.writeWaiting d line = true ↔
    ∃ i k c, (s.slot i k).state = .waiting ∧ (s.slot i k).dir = .write ∧ (s.slot i k).counted = some c ∧
      c.index = d ∧ c.line = line := by
  simp only [State.writeWaiting, List.any_eq_true, mem_four, mem_slotIdxs, true_and, showsWrite_iff]

theorem lineReady_iff : s.lineReady = true ↔ ∃ j, s.eng.active = some j ∧ s.eng.state = .copying ∧
    s.eng.haltPending = false ∧ s.eng.lineInFlight = none ∧ s.eng.cursor < 2 ^ ((s.desc (ordIdx j.desc)).size - 6) ∧
    (creditsOf s.mgmt.budget = 0 ∨ 1 ≤ s.eng.credits) ∧
    ¬∃ i k c, (s.slot i k).state = .waiting ∧ (s.slot i k).dir = .write ∧ (s.slot i k).counted = some c ∧
      c.index = ordIdx j.desc ∧ c.line = s.eng.cursor := by
  rw [← creditOk_iff]
  cases hj : s.eng.active with
  | none => simp [State.lineReady, hj]
  | some j =>
    simp only [State.lineReady, hj, ← writeWaiting_iff, Bool.and_eq_true, decide_eq_true_eq, Bool.not_eq_true',
      Option.isNone_iff_eq_none, Bool.not_eq_true, Option.some.injEq, exists_eq_left', and_assoc]
    exact Iff.rfl

theorem retryReady_iff : s.retryReady = true ↔ s.eng.state = .copying ∧ s.eng.lineInFlight.isSome = true ∧
    s.eng.lineStep = some .retryWait ∧ (creditsOf s.mgmt.budget = 0 ∨ 1 ≤ s.eng.credits) := by
  rw [← creditOk_iff]
  simp only [State.retryReady, Bool.and_eq_true, decide_eq_true_eq, and_assoc]

/-! ## The copy requests of a line (R122) -/

theorem mengRequest_sourceRead {w : Window} (hj : s.eng.active = some j) (hl : s.eng.lineStep = some .sourceRead)
    (hw : (s.desc (ordIdx j.desc)).read = .window w) (t : Fin 4) : mengRequest s t =
      if s.eng.outstanding = 0 ∧ w.target = t then
        some ⟨.read, w.base + BitVec.ofNat 28 (s.eng.cursor * 64), 64, []⟩
      else none := by
  simp only [mengRequest, hj, hl, hw]

theorem mengRequest_destWrite {bytes : List Byte} (hj : s.eng.active = some j)
    (hl : s.eng.lineStep = some .destWrite) (hb : s.eng.lineData = some bytes) (t : Fin 4) : mengRequest s t =
      if s.eng.outstanding = 0 ∧ j.dest.target = t then
        some ⟨.write, j.dest.base + BitVec.ofNat 28 (s.eng.cursor * 64), 64, bytes⟩
      else none := by
  simp only [mengRequest, hj, hl, hb, Option.getD_some]

/-- A line that waits for its retry, and an engine without a line, present nothing (R122, R134). -/
theorem mengRequest_waiting (hl : s.eng.lineStep = some .retryWait ∨ s.eng.lineStep = none) (t : Fin 4) :
    mengRequest s t = none := by
  cases hreq : mengRequest s t with
  | none => rfl
  | some b =>
    obtain ⟨_, hstep⟩ := mengRequest_some hreq
    rcases hl with hl | hl <;> simp [hl] at hstep

/-- Settles O37: a line is due exactly when it is ready to begin or to be tried again. -/
theorem lineBeginsUnderItsConditions : Obligations.LineBeginsUnderItsConditions := by
  refine ⟨fun s => ?_, fun s j w t hj hw => ⟨fun hl => mengRequest_sourceRead hj hl hw t,
    fun bytes hl hb => mengRequest_destWrite hj hl hb t, fun hl => mengRequest_waiting hl t⟩⟩
  dsimp only
  rw [← lineReady_iff, ← retryReady_iff]
  have hdue : s.lineDue = true ↔ s.lineReady = true ∨ s.retryReady = true := Bool.or_eq_true_iff
  refine ⟨fun h => congrArg Host.Outcome.next (if_pos (hdue.2 h)), fun hready hretry =>
    congrArg Host.Outcome.next (if_neg fun h => ?_)⟩
  exact (hdue.1 h).elim hready hretry

end Sys2Proof.Machine
end

section
/-! SUPPORT. The operations of the map, the engine and the ports leave the monitors to themselves: a monitor is told at
most of its idle job's end, and no descriptor goes out of use (R144, R151). -/

namespace Sys2Proof.Machine

variable {s t u : State}

/-! ## Monitors that are told of a job's end -/

/-- From `x` to `y` a monitor is told at most of the end of its idle job (R151). -/
def Monitor.Told (x y : Monitor) : Prop := y = x ∨ y = { x with idleJob := none }

theorem Monitor.Told.refl (x : Monitor) : x.Told x := .inl rfl

theorem Monitor.Told.trans {x y z : Monitor} (h : x.Told y) (k : y.Told z) : x.Told z := by
  rcases h with rfl | rfl
  · exact k
  · rcases k with rfl | rfl
    · exact .inr rfl
    · exact .inr rfl

/-- A record that fits does so without its idle job (R144). -/
theorem Monitor.fits.told {x y : Monitor} (h : x.fits) (k : x.Told y) : y.fits := by
  rcases k with rfl | rfl
  · exact h
  · obtain ⟨hlo, hhi, hidle, hwake, hstate⟩ := h
    refine ⟨hlo, hhi, hidle, hwake, ?_⟩
    cases hx : x.state <;> rw [hx] at hstate
    · exact ⟨hstate.1, rfl, hstate.2.2⟩
    · exact hstate
    · exact hstate

theorem Monitor.Told.state {x y : Monitor} (h : x.Told y) : y.state = x.state := by
  rcases h with rfl | rfl <;> rfl

theorem Monitor.Told.subject {x y : Monitor} (h : x.Told y) : y.subject = x.subject := by
  rcases h with rfl | rfl <;> rfl

theorem Monitor.Told.ask {x y : Monitor} (h : x.Told y) : y.ask = x.ask := by
  rcases h with rfl | rfl <;> rfl

/-- From `s` to `t` the monitors are told at most of the ends of their idle jobs, and no descriptor goes out of use. -/
structure MonitorsAside (s t : State) : Prop where
  mon   : ∀ m, (s.mon m).Told (t.mon m)
  inUse : ∀ d, (s.desc d).inUse = true → (t.desc d).inUse = true

theorem MonitorsAside.refl : MonitorsAside s s := ⟨fun _ => .refl _, fun _ => id⟩

theorem MonitorsAside.trans (h : MonitorsAside s t) (k : MonitorsAside t u) : MonitorsAside s u :=
  ⟨fun m => (h.mon m).trans (k.mon m), fun d => k.inUse d ∘ h.inUse d⟩

theorem MonitorsAside.of_mons (hm : t.mons = s.mons) (hd : ∀ d, (s.desc d).inUse = true → (t.desc d).inUse = true) :
    MonitorsAside s t :=
  ⟨fun m => .inl (congrArg (look · m) hm), hd⟩

theorem MonitorsAside.of_same (hm : t.mons = s.mons) (hd : t.map = s.map) : MonitorsAside s t :=
  .of_mons hm fun d h => by rwa [State.desc, hd]

/-- What leaves the monitors and the map alone may come before. -/
theorem MonitorsAside.after (k : MonitorsAside t u) (hm : t.mons = s.mons) (hd : t.map = s.map) : MonitorsAside s u :=
  (MonitorsAside.of_same hm hd).trans k

theorem aside_modDesc (d : DescIdx) (f : Desc → Desc) (h : (s.desc d).inUse = true → (f (s.desc d)).inUse = true) :
    MonitorsAside s (s.modDesc d f) :=
  .of_mons rfl fun e he => by
    rw [State.modDesc_desc]
    split
    · next hed => exact h (hed ▸ he)
    · exact he

theorem aside_foldl {α : Type} (f : State → α → State) (h : ∀ s a, MonitorsAside s (f s a)) (l : List α) (s : State) :
    MonitorsAside s (l.foldl f s) :=
  List.foldlRecOn (motive := MonitorsAside s) l _ .refl fun v hv a _ => hv.trans (h v a)

theorem SameStanding.inUse (h : SameStanding s t) (d : DescIdx) : (t.desc d).inUse = (s.desc d).inUse := by
  obtain ⟨o, ho⟩ := h.desc d
  rw [ho]; rfl

/-! ## The ends and the starts of jobs -/

theorem aside_endQueued (j : Job) (e : Ending) : MonitorsAside s (endQueued j e s) :=
  ⟨fun m => endQueued_mon s j e m ▸ endNotice_mon_eq s j m, fun d h => ((standing_endQueued j e).inUse d).trans h⟩

/-- MIGRATING becoming LIVE is no leaving of use. -/
theorem inUse_settled {x y : Desc} (hy : y.state = x.state ∨ x.state = .migrating ∧ y.state = .live)
    (hx : x.inUse = true) : y.inUse = true := by
  rcases hy with h | ⟨_, h⟩
  · rwa [Desc.inUse, h]
  · rw [Desc.inUse, h]; rfl

theorem aside_endActive (e : Ending) : MonitorsAside s (endActive e s) := by
  refine ⟨endActive_mon_eq s e, fun d h => ?_⟩
  obtain ⟨o, st, hd, hst⟩ := endActive_desc_eq s e d
  rw [hd]
  exact inUse_settled hst h

theorem aside_takeStartChecks : MonitorsAside s (takeStartChecks s) := by
  rcases takeStartChecks_cases s with h | ⟨r, h⟩ <;> rw [h]
  · exact .refl
  · exact aside_endActive _

theorem aside_beginJob : MonitorsAside s (beginJob s) := by
  rcases beginJob_cases s with h | ⟨r, h⟩ | ⟨j, _, _, _, h⟩ <;> rw [h]
  · exact .refl
  · exact aside_endActive _
  · exact (aside_modDesc (ordIdx j.desc) (fun x => { x with state := .migrating }) fun _ => rfl).trans (.of_same rfl rfl)

theorem aside_recheckStart (d : DescIdx) : MonitorsAside s (recheckStart d s) := by
  rcases recheckStart_cases s d with h | ⟨_, h⟩ <;> rw [h]
  · exact .refl
  · exact aside_beginJob

theorem aside_activateJob : MonitorsAside s (activateJob s) := by
  rcases activateJob_cases s with h | ⟨j, rest, _, _, _, h⟩ <;> rw [h]
  · exact .refl
  · exact aside_takeStartChecks.after rfl rfl

theorem aside_activateAtOnce : MonitorsAside s (activateAtOnce s) := by
  rcases activateAtOnce_cases s with h | ⟨j, rest, _, _, _, h⟩ <;> rw [h]
  · exact .refl
  · exact aside_beginJob.after rfl rfl

theorem aside_beginLine : MonitorsAside s (beginLine s) := .of_same (beginLine_mons s) (beginLine_map s)

/-! ## Switches, drains and uncounts -/

theorem aside_switchDone (d : DescIdx) : MonitorsAside s (switchDone d s) := by
  have hlive := aside_modDesc (s := s) d
    (fun x => { x with switching := false, state := if x.state = .migrating then .live else x.state })
    (inUse_settled (settled_ite id))
  unfold switchDone
  dsimp only
  split
  · exact hlive.trans ((aside_endActive _).after rfl rfl)
  · exact hlive.trans (.of_same rfl rfl)

theorem aside_completeSwitch (d : DescIdx) : MonitorsAside s (completeSwitch d s) :=
  (aside_switchDone d).trans ((aside_recheckStart d).after (release_mons ..) (release_map ..))

theorem aside_startSwitch (d : DescIdx) : MonitorsAside s (startSwitch d s) := by
  unfold startSwitch
  dsimp only
  split
  · have hlive := aside_modDesc (s := s) d
      (fun x => { x with gen := x.gen + 1, state := if x.state = .migrating then .live else x.state })
      (inUse_settled (settled_ite id))
    split
    · exact hlive.trans (aside_endActive _)
    · exact hlive
  · exact aside_modDesc d _ id

/-- A descriptor whose drain ends has left use before (R21, R60). -/
theorem aside_drainEnd (d : DescIdx) : MonitorsAside s (drainEnd d s) := by
  unfold drainEnd
  split
  · next h =>
    have hout : (s.desc d).inUse ≠ true := by simp [Desc.inUse, h.1]
    exact (aside_modDesc d Desc.freed fun hu => absurd hu hout).trans (.of_same rfl rfl)
  · exact .refl

theorem aside_uncount (c : Counted) : MonitorsAside s (uncount c s) := by
  have hfall : MonitorsAside s (s.modDesc c.index (Desc.decrement c.gen)) :=
    aside_modDesc _ _ (inUse_settled (.inl (by unfold Desc.decrement; split <;> rfl)))
  unfold uncount
  dsimp only
  split
  · exact hfall.trans (aside_completeSwitch _)
  · exact hfall.trans (aside_drainEnd _)

theorem aside_uncountIf (c : Option Counted) : MonitorsAside s (uncountIf c s) := by
  cases c with
  | none => exact .refl
  | some c => exact aside_uncount c

/-! ## Copying and cutover -/

theorem aside_cuttingOver (j : Job) : MonitorsAside s (cuttingOver j s) :=
  .of_mons rfl fun d h => by
    obtain ⟨r, w, m, hd⟩ := cuttingOver_desc (s := s) j d
    rwa [hd]

theorem aside_enterCutover : MonitorsAside s (enterCutover s) := by
  rcases hj : s.eng.active with _ | j
  · unfold enterCutover; rw [hj]; exact .refl
  · rw [enterCutover_eq hj]; exact (aside_cuttingOver j).trans (aside_startSwitch _)

theorem aside_completeLine : MonitorsAside s (completeLine s) := by
  rcases completeLine_cases (s := s) with h | ⟨j, l, u, _, _, rfl, h | h | h⟩ <;> rw [h]
  · exact .refl
  · exact .of_same rfl rfl
  · exact .of_same rfl rfl
  · exact aside_enterCutover.after rfl rfl

theorem aside_copyError : MonitorsAside s (copyError s) := by
  unfold copyError
  split
  · exact .refl
  · split
    · exact .of_same rfl rfl
    · exact aside_endActive _

theorem aside_copyResult (code : TargetCode) (data : List Byte) : MonitorsAside s (copyResult code data s) := by
  unfold copyResult
  split
  · exact .of_same rfl rfl
  · dsimp only
    split
    · exact .of_same rfl rfl
    · exact aside_completeLine.after rfl rfl
    · exact aside_copyError.after rfl rfl
    · exact aside_copyError.after rfl rfl
    · exact .of_same rfl rfl
    · exact .of_same rfl rfl

theorem aside_mirrorReport (c : Counted) (l : Leg) : MonitorsAside s (mirrorReport c l s) := by
  unfold mirrorReport
  split
  · exact .refl
  · split
    · exact aside_endActive _
    · exact .refl

theorem aside_resumeEngine : MonitorsAside s (resumeEngine s) := by
  unfold resumeEngine
  split
  · exact aside_activateAtOnce.after rfl rfl
  · split
    · dsimp only
      split
      · exact aside_enterCutover.after rfl rfl
      · exact .of_same rfl rfl
    · exact aside_beginJob.after rfl rfl

theorem aside_enqueueAtOnce (d : Fin 64) (w : Window) (mode : Mode) : MonitorsAside s (enqueueAtOnce d w mode s) := by
  unfold enqueueAtOnce
  split
  · exact aside_activateAtOnce.after rfl rfl
  · exact .of_same rfl rfl

/-! ## The Initiator Ports -/

theorem aside_resolveSlot (i : Fin 4) (k : Fin 8) : MonitorsAside s (resolveSlot i k s) := by
  unfold resolveSlot
  dsimp only
  split
  · exact .of_same rfl rfl
  · exact .of_same rfl rfl
  · exact .of_same rfl rfl
  · exact .of_same rfl rfl
  · exact .of_same rfl rfl
  · exact .of_same rfl rfl
  · exact (aside_modDesc (winner s (s.slot i k).addr) (fun x => { x with cur := x.cur + 1 }) id).trans
      (.of_same rfl rfl)

theorem aside_acceptRequest (i : Fin 4) (r : Request) : MonitorsAside s (acceptRequest i r s) := by
  unfold acceptRequest
  dsimp only
  split
  · exact .refl
  · split
    · exact .of_same rfl rfl
    · split
      · exact .refl
      · split
        · exact .of_same rfl rfl
        · exact (aside_resolveSlot _ _).after rfl rfl

theorem aside_reResolve (i : Fin 4) : MonitorsAside s (reResolve i s) := by
  unfold reResolve
  split
  · exact .refl
  · exact (aside_resolveSlot _ _).after rfl rfl

theorem aside_takeResponse (i : Fin 4) : MonitorsAside s (takeResponse i s) := by
  unfold takeResponse
  dsimp only
  split
  · exact .refl
  · split
    · exact .refl
    · exact .of_same rfl rfl
    · exact (aside_uncountIf _).after rfl rfl

theorem aside_finishSlot (i : Fin 4) (k : Fin 8) : MonitorsAside s (finishSlot i k s) := by
  unfold finishSlot
  dsimp only
  split
  · split
    · exact .of_same rfl rfl
    · exact (aside_uncountIf _).after rfl rfl
    · exact .refl
    · exact .refl
    · exact .refl
  · exact .refl

theorem aside_reportMirror (i : Fin 4) (k : Fin 8) (r : LegRole) : MonitorsAside s (reportMirror i k r s) := by
  unfold reportMirror
  dsimp only
  split
  · exact aside_mirrorReport _ _
  · exact .refl

theorem aside_legResult (i : Fin 4) (k : Fin 8) (r : LegRole) (code : TargetCode) (data : List Byte) :
    MonitorsAside s (legResult i k r code data s) := by
  unfold legResult
  cases code with
  | ok => exact (aside_finishSlot i k).after rfl rfl
  | error => exact ((aside_reportMirror i k r).trans (aside_finishSlot i k)).after rfl rfl

theorem aside_assertIrst (i : Fin 4) : MonitorsAside s (assertIrst i s) :=
  (aside_foldl _ (fun _ c => aside_uncountIf c) _ _).after rfl rfl

/-! ## The Target Ports -/

theorem aside_ownerResult (o : Owner) (code : TargetCode) (data : List Byte) :
    MonitorsAside s (ownerResult o code data s) := by
  cases o with
  | leg i k r => exact aside_legResult i k r code data
  | meng => exact aside_copyResult code data

theorem aside_enterOffline (p : Fin 4) : MonitorsAside s (enterOffline p s) :=
  (aside_foldl _ (fun _ (r : TReq) => aside_ownerResult r.owner .error []) _ _).after rfl rfl

theorem aside_targetAnswers (p : Fin 4) (num : BitVec 4) (code : TargetCode) (data : List Byte) :
    MonitorsAside s (targetAnswers p num code data s) := by
  unfold targetAnswers
  split
  · exact .refl
  · split
    · exact aside_enterOffline p
    · dsimp only
      split
      · cases code <;> exact (aside_ownerResult _ _ _).after rfl rfl
      · exact aside_enterOffline p

theorem aside_expireTimer (p : Fin 4) : MonitorsAside s (expireTimer p s) := by
  unfold expireTimer
  split
  · exact aside_enterOffline p
  · exact .refl

theorem aside_handOver (p : Fin 4) (r : Requester) : MonitorsAside s (handOver p r s).1 := by
  unfold handOver
  split
  · split
    · exact .of_same rfl rfl
    · exact .refl
  · split <;> exact .of_same rfl rfl

theorem aside_takeGrant (p : Fin 4) (b : ReqBody) (o : Owner) : MonitorsAside s (takeGrant p b o s) := by
  unfold takeGrant
  split
  · exact .of_same rfl rfl
  · exact (aside_ownerResult _ _ _).after rfl rfl

theorem aside_grant (p : Fin 4) : MonitorsAside s (grant p s) := by
  unfold grant
  split
  · exact .refl
  · split
    · exact .refl
    · next r _ =>
      have hover : MonitorsAside s (handOver p r (s.modTPort p fun x => { x with lastGranted := r })).1 :=
        (aside_handOver p r).after rfl rfl
      split
      · next he => rw [he] at hover; exact hover.trans (aside_takeGrant p _ _)
      · next he => rw [he] at hover; exact hover

theorem aside_endRestore (p : Fin 4) : MonitorsAside s (endRestore p s) := by
  unfold endRestore
  split <;> exact .of_same rfl rfl

end Sys2Proof.Machine
end

section
/-! SUPPORT. The monitors' own events keep their records lawful: ticks, accesses and requests (R144 to R150); and a monitor
that is to finish its requests has none on its way when all have finished (R149, R150, R155). -/

namespace Sys2Proof.Machine

variable {s t : State} {m : Fin 16} {x : Monitor}

/-! ## Lawful records -/

theorem MonitorsAside.fit (h : MonitorsAside s t) (hs : MonitorsFit s) : MonitorsFit t := fun m => by
  obtain ⟨hfits, huse⟩ := hs m
  have htold := h.mon m
  refine ⟨hfits.told htold, fun hrun => ?_⟩
  rw [htold.subject]
  exact h.inUse _ (huse (htold.state ▸ hrun))

theorem MonitorsFit.of_same (hs : MonitorsFit s) (hm : t.mons = s.mons) (hd : t.map = s.map) : MonitorsFit t :=
  (MonitorsAside.of_same hm hd).fit hs

/-- One monitor changes: the record is lawful, and runs on a descriptor in use. -/
theorem MonitorsFit.modMon {f : Monitor → Monitor} (hs : MonitorsFit s) (hfits : (f (s.mon m)).fits)
    (huse : (f (s.mon m)).state ≠ .off → (s.desc (ordIdx (f (s.mon m)).subject)).inUse = true) :
    MonitorsFit (s.modMon m f) := fun n => by
  rw [State.modMon_mon]
  split
  · exact ⟨hfits, huse⟩
  · exact hs n

/-- A running monitor changes, but for its subject. -/
theorem MonitorsFit.modMon_running {f : Monitor → Monitor} (hs : MonitorsFit s) (hrun : (s.mon m).state ≠ .off)
    (hsub : (f (s.mon m)).subject = (s.mon m).subject) (hfits : (f (s.mon m)).fits) : MonitorsFit (s.modMon m f) :=
  hs.modMon hfits fun _ => hsub ▸ (hs m).2 hrun

/-- A COUNTING monitor's record stays lawful at every count from 1 to its reload (R144). -/
theorem Monitor.fits.counting (h : x.fits) (hs : x.state = .counting) {n : Nat} (hlo : 1 ≤ n) (hhi : n ≤ x.reload) :
    ({ x with count := n } : Monitor).fits := by
  obtain ⟨hr, hr', hidle, hwake, hstate⟩ := h
  refine ⟨hr, hr', hidle, hwake, ?_⟩
  rw [hs] at hstate
  rw [show ({ x with count := n } : Monitor).state = .counting from hs]
  exact ⟨hlo, hhi, hstate.2.2⟩

theorem Monitor.fits.count_le (h : x.fits) (hs : x.state = .counting) : x.count ≤ x.reload := by
  obtain ⟨_, _, _, _, hstate⟩ := h
  rw [hs] at hstate
  exact hstate.2.1

/-! ## Going idle and waking (R149, R150) -/

theorem wakeAsk_cases (x : Monitor) : x.wakeAsk = none ∨ x.wakeT.isSome = true ∧ x.wakeAsk = some .wake := by
  unfold Monitor.wakeAsk
  split
  · next h => exact .inr ⟨h, rfl⟩
  · exact .inl rfl

/-- A monitor that goes idle asks at most for a template that it has. -/
theorem fit_goIdle (hs : MonitorsFit s) (hrun : (s.mon m).state ≠ .off) : MonitorsFit (goIdle m s) := by
  obtain ⟨hr, hr', _⟩ := (hs m).1
  refine MonitorsFit.of_same (hs.modMon_running (m := m) (f := fun x =>
    { x with state := .idle, count := 0, ask := if x.idleT.isSome then some .idle else none }) hrun rfl ?_) rfl rfl
  by_cases hidle : (s.mon m).idleT.isSome = true
  · simp only [hidle, if_true]
    exact ⟨hr, hr', fun _ => hidle, nofun, rfl, .inr rfl⟩
  · simp only [hidle]
    exact ⟨hr, hr', nofun, nofun, rfl, .inl rfl⟩

/-- A monitor that wakes asks for the withdrawal of its idle job, or at most for a template that it has. -/
theorem fit_wakeUp (hs : MonitorsFit s) (hrun : (s.mon m).state ≠ .off) : MonitorsFit (wakeUp m s) := by
  obtain ⟨hr, hr', _⟩ := (hs m).1
  refine MonitorsFit.of_same (hs.modMon_running (m := m) (f := fun x =>
    { x with
      state := .counting, count := x.reload
      ask := match x.idleJob with
        | some id => some (.withdraw id)
        | none => x.wakeAsk }) hrun rfl ?_) rfl rfl
  cases (s.mon m).idleJob with
  | some id => exact ⟨hr, hr', nofun, nofun, hr, Nat.le_refl _, nofun⟩
  | none =>
    rcases wakeAsk_cases (s.mon m) with hask | ⟨hwake, hask⟩
    · simp only [hask]
      exact ⟨hr, hr', nofun, nofun, hr, Nat.le_refl _, nofun⟩
    · simp only [hask]
      exact ⟨hr, hr', nofun, fun _ => hwake, hr, Nat.le_refl _, nofun⟩

/-! ## Ticks and accesses (R146, R147) -/

theorem fit_takeTick (hs : MonitorsFit s) : MonitorsFit (takeTick m s) := by
  unfold takeTick
  split
  · exact hs
  · exact hs
  · next hc =>
    have hrun : (s.mon m).state ≠ .off := by rw [hc]; nofun
    split
    · exact fit_goIdle hs hrun
    · have hle := (hs m).1.count_le hc
      exact hs.modMon_running hrun rfl ((hs m).1.counting hc (by omega) (by omega))

theorem fit_takeAccess (hs : MonitorsFit s) : MonitorsFit (takeAccess m s) := by
  unfold takeAccess
  split
  · exact hs
  · next hc => exact hs.modMon_running (by rw [hc]; nofun) rfl ((hs m).1.counting hc (hs m).1.1 (Nat.le_refl _))
  · next hi => exact fit_wakeUp hs (by rw [hi]; nofun)

theorem fit_takeArrival (a : Arrival) (hs : MonitorsFit s) : MonitorsFit (takeArrival a s) := by
  cases a with
  | tick m src =>
    simp only [takeArrival]
    split
    · exact fit_takeTick hs
    · exact hs
  | access m d dir =>
    simp only [takeArrival]
    split
    · exact fit_takeAccess hs
    · exact hs

/-! ## Requests (R106, R107) -/

/-- A running monitor whose request the engine has taken: nothing is on its way, or after a withdrawal the enqueue of a
wake template that it has; whatever the idle job is, the record is lawful. -/
theorem Monitor.fits.asked (h : x.fits) (hrun : x.state ≠ .off) {a : Option Ask} (o : Option (BitVec 8))
    (ha : a = none ∨ (∃ id, x.ask = some (.withdraw id)) ∧ a = x.wakeAsk) :
    ({ x with ask := a, idleJob := o } : Monitor).fits := by
  obtain ⟨hr, hr', _, _, hstate⟩ := h
  have hidle : a ≠ some .idle := by
    rcases ha with rfl | ⟨_, rfl⟩
    · nofun
    · rcases wakeAsk_cases x with hask | ⟨_, hask⟩ <;> rw [hask] <;> nofun
  have hwake : a = some .wake → x.wakeT.isSome = true := by
    rcases ha with rfl | ⟨_, rfl⟩
    · nofun
    · rcases wakeAsk_cases x with hask | ⟨hw, _⟩
      · rw [hask]; nofun
      · exact fun _ => hw
  refine ⟨hr, hr', fun hi => absurd hi hidle, hwake, ?_⟩
  cases hx : x.state <;> rw [hx] at hstate
  · exact absurd hx hrun
  · exact ⟨hstate.1, hstate.2.1, hidle⟩
  · refine ⟨hstate.1, .inl (ha.resolve_right ?_)⟩
    rintro ⟨⟨id, hid⟩, _⟩
    rw [hid] at hstate
    rcases hstate.2 with h | h <;> cases h

/-- A monitor OFF has no request on its way (R144). -/
theorem Monitor.fits.ask_off (h : x.fits) (hoff : x.state = .off) : x.ask = none := by
  obtain ⟨_, _, _, _, hstate⟩ := h
  rw [hoff] at hstate
  exact hstate.2.2

section
variable {n : Fin 16} (hn : n ≠ m)
include hn

theorem takeIdleAsk_mon_ne : (takeIdleAsk m s).mon n = s.mon n := by
  unfold takeIdleAsk
  split
  · rfl
  · next w _ =>
    have h := monitorEnqueue_mon (s := s) (m := m) w (.monitorIdle m) n
    split
    · next he => rw [he] at h; rw [State.modMon_mon_ne _ _ hn, h]
    · next he => rw [he] at h; exact h

/-- A request of one monitor tells another at most of its idle job's end (R107, R151). -/
theorem takeAsk_told : (s.mon n).Told ((takeAsk m s).mon n) := by
  have hne (f : Monitor → Monitor) : (s.modMon m f).mon n = s.mon n := State.modMon_mon_ne _ _ hn
  unfold takeAsk
  dsimp only
  split
  · exact .refl _
  · rw [takeIdleAsk_mon_ne hn, hne]; exact .refl _
  · unfold takeWithdrawal
    split
    · rw [State.modMon_mon_ne _ _ hn]
      exact hne _ ▸ (aside_endQueued _ _).mon n
    · rw [State.modMon_mon_ne _ _ hn, hne]; exact .refl _
  · have hwake : (takeWakeAsk m (s.modMon m fun x => { x with ask := none })).mon n =
        (s.modMon m fun x => { x with ask := none }).mon n := by
      unfold takeWakeAsk
      split
      · rfl
      · exact monitorEnqueue_mon ..
    rw [hwake, hne]; exact .refl _

end

theorem fit_takeAsk (m : Fin 16) (hs : MonitorsFit s) : MonitorsFit (takeAsk m s) := fun n => by
  obtain ⟨hfits, huse⟩ := hs n
  have hstand := (standing_takeAsk (s := s) m).inUse
  by_cases hn : n = m
  · subst hn
    by_cases hask : (s.mon n).ask = none
    · rw [takeAsk_none hask]; exact hs n
    · have hrun : (s.mon n).state ≠ .off := fun hoff => hask (hfits.ask_off hoff)
      obtain ⟨a, o, hmon, ha⟩ := takeAsk_mon s n
      rw [hmon]
      exact ⟨hfits.asked hrun o ha, fun _ => (hstand _).trans (huse hrun)⟩
  · have htold := takeAsk_told (s := s) hn
    refine ⟨hfits.told htold, fun hrun => ?_⟩
    rw [htold.subject]
    exact (hstand _).trans (huse (htold.state ▸ hrun))

theorem fit_finishAsks (m : Fin 16) (hs : MonitorsFit s) : MonitorsFit (finishAsks m s) := fit_takeAsk m (fit_takeAsk m hs)

theorem fit_finishAll (sel : Monitor → Bool) (hs : MonitorsFit s) : MonitorsFit (finishAll sel s) := by
  obtain ⟨ms, n, h⟩ := finishAll_foldl sel s
  rw [h]
  exact List.foldlRecOn (motive := MonitorsFit) ms _ (hs.of_same rfl rfl) fun _ hv m _ => fit_finishAsks m hv

/-! ## Monitors that have finished -/

/-- From `x` to `y` a monitor stays in its state and on its subject, and asks for nothing new. -/
structure Monitor.Quieted (x y : Monitor) : Prop where
  state   : y.state = x.state
  subject : y.subject = x.subject
  ask     : x.ask = none → y.ask = none

theorem Monitor.Quieted.refl (x : Monitor) : x.Quieted x := ⟨rfl, rfl, id⟩

theorem Monitor.Quieted.trans {y z : Monitor} (h : x.Quieted y) (k : y.Quieted z) : x.Quieted z :=
  ⟨k.state.trans h.state, k.subject.trans h.subject, k.ask ∘ h.ask⟩

theorem takeAsk_quieted (m n : Fin 16) : (s.mon n).Quieted ((takeAsk m s).mon n) := by
  by_cases hn : n = m
  · subst hn
    by_cases hask : (s.mon n).ask = none
    · rw [takeAsk_none hask]; exact .refl _
    · obtain ⟨a, o, hmon, _⟩ := takeAsk_mon s n
      rw [hmon]; exact ⟨rfl, rfl, fun h => absurd h hask⟩
  · have htold := takeAsk_told (s := s) hn
    exact ⟨htold.state, htold.subject, htold.ask.trans⟩

theorem finishAsks_quieted (m n : Fin 16) : (s.mon n).Quieted ((finishAsks m s).mon n) :=
  (takeAsk_quieted m n).trans (takeAsk_quieted m n)

theorem foldl_finishAsks_quieted (ms : List (Fin 16)) (s : State) (n : Fin 16) :
    (s.mon n).Quieted ((ms.foldl (fun s m => finishAsks m s) s).mon n) :=
  List.foldlRecOn (motive := fun t : State => (s.mon n).Quieted (t.mon n)) ms _ (.refl _)
    fun _ hv m _ => hv.trans (finishAsks_quieted m n)

/-- A monitor that finishes among others has no request on its way at the end. -/
theorem foldl_finishAsks_ask {ms : List (Fin 16)} (hm : m ∈ ms) (s : State) :
    ((ms.foldl (fun s m => finishAsks m s) s).mon m).ask = none := by
  induction ms generalizing s with
  | nil => cases hm
  | cons n ms ih =>
    rw [List.foldl_cons]
    rcases List.mem_cons.1 hm with rfl | hm
    · exact (foldl_finishAsks_quieted ms _ m).ask finishAsks_ask
    · exact ih hm _

theorem mem_insertByRank (draw : Nat) (m n : Fin 16) (ms : List (Fin 16)) :
    n ∈ insertByRank draw m ms ↔ n = m ∨ n ∈ ms := by
  induction ms with
  | nil => simp [insertByRank]
  | cons k ms ih =>
    unfold insertByRank
    split
    · exact List.mem_cons
    · rw [List.mem_cons, ih, List.mem_cons]; exact or_left_comm

/-- A free order takes every monitor (log entry 6). -/
theorem mem_freeOrder (draw : Nat) (n : Fin 16) (ms : List (Fin 16)) : n ∈ freeOrder draw ms ↔ n ∈ ms := by
  have hsorted : n ∈ ms.foldr (insertByRank draw) [] ↔ n ∈ ms := by
    induction ms with
    | nil => rfl
    | cons m ms ih => rw [List.foldr_cons, mem_insertByRank, ih, List.mem_cons]
  unfold freeOrder
  split
  · rfl
  · exact hsorted

theorem finishAll_quieted (sel : Monitor → Bool) (n : Fin 16) : (s.mon n).Quieted ((finishAll sel s).mon n) := by
  obtain ⟨ms, k, h⟩ := finishAll_foldl sel s
  rw [h]
  exact foldl_finishAsks_quieted ms { s with freeDraws := k } n

/-- A selected monitor has finished its requests (R155). -/
theorem finishAll_ask {sel : Monitor → Bool} (hsel : sel (s.mon m) = true) : ((finishAll sel s).mon m).ask = none := by
  by_cases hask : (s.mon m).ask = none
  · exact (finishAll_quieted sel m).ask hask
  · refine foldl_finishAsks_ask ((mem_freeOrder ..).2 (List.mem_filter.2 ⟨mem_monitors m, ?_⟩)) _
    rw [hsel, Bool.true_and, Option.isSome_iff_ne_none]
    exact hask

end Sys2Proof.Machine
end

section
/-! SUPPORT. The commands, and so every step, keep the monitors' records lawful, with the subject of a running one in use
(R143, R144, R152, R153, R155, R157). -/

namespace Sys2Proof.Machine

variable {s t u : State} {d : DescIdx}

/-! ## Commands at the Management Port -/

/-- What an owning block does with a command keeps the monitors' records lawful. -/
def KeepsMonitors (act : Action) : Prop := ∀ s, MonitorsFit s → MonitorsFit (act s).1

/-- What leaves the monitors aside keeps their records lawful. -/
theorem keepsMonitors_of_aside {act : Action} (h : ∀ s, MonitorsAside s (act s).1) : KeepsMonitors act :=
  fun s hs => (h s).fit hs

theorem fit_writeCommand {code : BitVec 8} {act : Action} (h : KeepsMonitors act) (hs : MonitorsFit s) :
    MonitorsFit (writeCommand code act s) := by
  have hact : MonitorsFit (act (latchCommand code s)).1 := h _ (hs.of_same rfl rfl)
  rcases writeCommand_cases s code act with hw | ⟨_, ⟨t, e, ha, hw⟩ | ⟨t, ha, hw⟩⟩ <;> rw [hw]
  · exact hs.of_same rfl rfl
  · rw [ha] at hact; exact hact.of_same rfl rfl
  · rw [ha] at hact; exact hact

theorem keepsMonitors_withIndex {n : Nat} {act : DescIdx → Action} (h : ∀ d, KeepsMonitors (act d)) :
    KeepsMonitors (withIndex n act) := fun s hs => by
  unfold withIndex
  split
  · exact h _ s hs
  · exact hs

theorem keepsMonitors_withMonitor {n : Nat} {act : Fin 16 → Action} (h : ∀ m, KeepsMonitors (act m)) :
    KeepsMonitors (withMonitor n act) := fun s hs => by
  unfold withMonitor
  split
  · exact h _ s hs
  · exact hs

/-! ## Descriptors -/

/-- STAGE writes a descriptor that is in no use (R15). -/
theorem keepsMonitors_stageAct : KeepsMonitors stageAct := fun s hs => by
  refine keepsMonitors_withIndex (fun d => keepsMonitors_of_aside fun s => ?_) s hs
  split
  · exact .refl
  · split
    · exact .refl
    · next hstate =>
      split
      · exact .refl
      · next base size f _ =>
        refine aside_modDesc d (fun x => x.staged base size f) fun hu => absurd ?_ hstate
        constructor <;> intro h <;> simp [Desc.inUse, h] at hu

theorem keepsMonitors_activateAct : KeepsMonitors activateAct := fun s hs => by
  refine keepsMonitors_withIndex (fun d => keepsMonitors_of_aside fun s => ?_) s hs
  split
  · exact .refl
  · exact aside_modDesc d Desc.activated fun _ => rfl

theorem keepsMonitors_modifyAct : KeepsMonitors modifyAct := fun s hs => by
  refine keepsMonitors_withIndex (fun d => keepsMonitors_of_aside fun s => ?_) s hs
  split
  · exact .refl
  · split
    · exact .refl
    · split
      · exact .refl
      · next f _ =>
        split
        · exact .refl
        · exact (aside_modDesc d (fun x => x.modified f) id).trans (aside_startSwitch d)

/-! ## RETIRE (R21, R155) -/

theorem leaveUse_told (m : Fin 16) : (s.mon m).Told ((leaveUse d s).mon m) := by
  unfold leaveUse
  dsimp only
  split
  · exact (aside_endActive (s := s.modDesc d Desc.leaving) .retired).mon m
  · exact .refl _

theorem leaveUse_inUse_ne {e : DescIdx} (he : e ≠ d) (hu : (s.desc e).inUse = true) :
    ((leaveUse d s).desc e).inUse = true := by
  have hleft : ((s.modDesc d Desc.leaving).desc e).inUse = true := by rwa [State.modDesc_desc_ne _ _ he]
  unfold leaveUse
  dsimp only
  split
  · exact (aside_endActive .retired).inUse e hleft
  · exact hleft

/-- A monitor without a request on its way goes OFF, or is on another descriptor or OFF already (R155). -/
theorem Monitor.fits.unbound {x : Monitor} (h : x.fits) (hask : ordIdx x.subject = d → x.state ≠ .off → x.ask = none) :
    (x.unbound d).fits := by
  by_cases hon : ordIdx x.subject = d ∧ x.state ≠ .off
  · obtain ⟨hr, hr', hidle, hwake, _⟩ := h
    rw [unbound_of_runs hon.1 hon.2]
    exact ⟨hr, hr', hidle, hwake, rfl, rfl, hask hon.1 hon.2⟩
  · rwa [unbound_of_not hon]

/-- No monitor runs on the descriptor after its monitors are unbound. -/
theorem unbound_runs {x : Monitor} (h : (x.unbound d).state ≠ .off) : x.unbound d = x ∧ ordIdx x.subject ≠ d := by
  by_cases hon : ordIdx x.subject = d ∧ x.state ≠ .off
  · rw [unbound_of_runs hon.1 hon.2] at h
    exact absurd rfl h
  · rw [unbound_of_not hon] at h
    exact ⟨unbound_of_not hon, fun hd => hon ⟨hd, h⟩⟩

/-- A descriptor is withdrawn whose monitors have finished their requests: they go OFF with it. -/
theorem fit_withdraw (hs : MonitorsFit s)
    (hask : ∀ m, ordIdx (s.mon m).subject = d → (s.mon m).state ≠ .off → (s.mon m).ask = none) :
    MonitorsFit (withdraw d s) := by
  rw [withdraw_eq]
  refine ((aside_recheckStart d).trans (aside_drainEnd d)).fit fun m => ?_
  obtain ⟨hfits, huse⟩ := hs m
  have htold : (s.mon m).Told ((releaseSwitch d (s.desc d).switching (leaveUse d s)).mon m) := by
    rw [releaseSwitch_mon]; exact leaveUse_told m
  rw [unbindMonitors_mon]
  refine ⟨(hfits.told htold).unbound ?_, fun hrun => ?_⟩
  · rw [htold.subject, htold.state, htold.ask]; exact hask m
  · obtain ⟨hsame, hne⟩ := unbound_runs hrun
    rw [hsame, htold.state] at hrun
    rw [htold.subject] at hne
    rw [hsame, htold.subject, unbindMonitors_desc, releaseSwitch_desc]
    exact leaveUse_inUse_ne hne (huse hrun)

theorem fit_retired (hs : MonitorsFit s) : MonitorsFit (withdraw d (finishMonitorsOn d s)) := by
  refine fit_withdraw (fit_finishAll _ hs) fun m hsub hrun => finishAll_ask ?_
  have hquiet : (s.mon m).Quieted ((finishMonitorsOn d s).mon m) := finishAll_quieted _ m
  rw [hquiet.subject] at hsub
  rw [hquiet.state] at hrun
  rw [decide_eq_true hsub, decide_eq_true hrun]; rfl

theorem keepsMonitors_retireAct : KeepsMonitors retireAct := fun s hs => by
  refine keepsMonitors_withIndex (fun d s hs => ?_) s hs
  split
  · exact hs
  · split
    · exact hs
    · exact hs
    · next hst =>
      have hout : (s.desc d).inUse ≠ true := by simp [Desc.inUse, hst]
      exact (aside_modDesc d Desc.freed fun hu => absurd hu hout).fit hs
    · rw [finished_fst]; exact fit_retired hs
    · rw [finished_fst]; exact fit_retired hs

/-! ## Jobs and reading commands -/

theorem keepsMonitors_readDescriptorAct : KeepsMonitors readDescriptorAct := fun s hs =>
  keepsMonitors_withIndex (fun _ _ hs => hs) s hs

theorem keepsMonitors_probeAct : KeepsMonitors probeAct := fun s hs => by
  unfold probeAct
  dsimp only
  split
  · exact hs
  · split
    · split <;> exact hs
    · exact hs

theorem keepsMonitors_queueMigrationAct : KeepsMonitors queueMigrationAct := keepsMonitors_of_aside fun s => by
  unfold queueMigrationAct
  split
  · exact .refl
  · split
    · split
      · exact .refl
      · exact aside_enqueueAtOnce ..
    · exact .refl

theorem keepsMonitors_cancelJobAct : KeepsMonitors cancelJobAct := keepsMonitors_of_aside fun s => by
  unfold cancelJobAct
  dsimp only
  split
  · exact .refl
  · split
    · exact aside_endQueued _ _
    · split
      · exact .refl
      · split
        · exact .refl
        · exact aside_endActive _

theorem keepsMonitors_queryJobAct : KeepsMonitors queryJobAct := fun s hs => by
  unfold queryJobAct
  dsimp only
  split
  · exact hs
  · split
    · exact hs
    · split <;> exact hs

theorem keepsMonitors_haltEngineAct : KeepsMonitors haltEngineAct := keepsMonitors_of_aside fun s => by
  unfold haltEngineAct
  split
  · exact .refl
  · exact .of_same rfl rfl

theorem keepsMonitors_resumeEngineAct : KeepsMonitors resumeEngineAct := keepsMonitors_of_aside fun s => by
  unfold resumeEngineAct
  split
  · exact aside_resumeEngine
  · exact .refl

/-! ## Monitors, restore and RESTART -/

/-- SET MONITOR takes a reload from 1 to 255 (R152). -/
theorem parseMonitor_reload {p : Vector Word 6} {f : MonitorFields} (h : parseMonitor p = some f) :
    1 ≤ f.reload ∧ f.reload ≤ 255 := by
  have hreload := (parseMonitor_fields h).1
  unfold parseMonitor at h
  dsimp only at h
  split at h
  · cases h
  · next hin => omega

theorem keepsMonitors_setMonitorAct : KeepsMonitors setMonitorAct := fun s hs => by
  refine keepsMonitors_withMonitor (fun m s hs => ?_) s hs
  split
  · exact hs
  · split
    · next hlt =>
      split
      · exact hs
      · next huse =>
        split
        · exact hs
        · next f hf =>
          obtain ⟨hlo, hhi⟩ := parseMonitor_reload hf
          have hfits : (Monitor.bound ⟨_, hlt⟩ f).fits := ⟨hlo, hhi, nofun, nofun, hlo, Nat.le_refl _, nofun⟩
          have huse : (s.desc (ordIdx ⟨_, hlt⟩)).inUse = true := by simpa using huse
          exact (hs.modMon (m := m) (f := fun _ => Monitor.bound ⟨_, hlt⟩ f) hfits fun _ => huse).of_same rfl rfl
    · exact hs

theorem keepsMonitors_stopMonitorAct : KeepsMonitors stopMonitorAct := fun s hs => by
  refine keepsMonitors_withMonitor (fun m s hs => ?_) s hs
  split
  · exact hs
  · obtain ⟨⟨hr, hr', hidle, hwake, _⟩, _⟩ := fit_finishAsks m hs m
    exact (fit_finishAsks m hs).modMon ⟨hr, hr', hidle, hwake, rfl, rfl, finishAsks_ask⟩ fun h => absurd rfl h

theorem keepsMonitors_readMonitorAct : KeepsMonitors readMonitorAct := fun s hs =>
  keepsMonitors_withMonitor (fun _ _ hs => hs) s hs

theorem keepsMonitors_restoreTargetAct : KeepsMonitors restoreTargetAct := keepsMonitors_of_aside fun s => by
  unfold restoreTargetAct
  split
  · split
    · exact .refl
    · exact .of_same rfl rfl
  · exact .refl

/-- Cleared monitors are OFF (R157). -/
theorem fit_of_cleared (h : ∀ m, s.mon m = Monitor.cleared) : MonitorsFit s := fun m => by
  rw [h m]
  exact ⟨⟨Nat.le_refl 1, Nat.le_of_ble_eq_true rfl, nofun, nofun, rfl, rfl, rfl⟩, fun hrun => absurd rfl hrun⟩

theorem keepsMonitors_restartAct : KeepsMonitors restartAct := fun _ _ => fit_of_cleared fun _ => look_replicate ..

theorem keepsMonitors_actionOf (code : BitVec 8) : KeepsMonitors (actionOf code) := by
  unfold actionOf
  split
  · exact keepsMonitors_stageAct
  · exact keepsMonitors_activateAct
  · exact keepsMonitors_modifyAct
  · exact keepsMonitors_retireAct
  · exact keepsMonitors_readDescriptorAct
  · exact keepsMonitors_probeAct
  · exact keepsMonitors_queueMigrationAct
  · exact keepsMonitors_cancelJobAct
  · exact keepsMonitors_queryJobAct
  · exact keepsMonitors_haltEngineAct
  · exact keepsMonitors_resumeEngineAct
  · exact keepsMonitors_setMonitorAct
  · exact keepsMonitors_stopMonitorAct
  · exact keepsMonitors_readMonitorAct
  · exact keepsMonitors_restoreTargetAct
  · exact keepsMonitors_restartAct
  · exact fun _ hs => hs

theorem fit_command (code : BitVec 8) (hs : MonitorsFit s) : MonitorsFit (writeCommand code (actionOf code) s) :=
  fit_writeCommand (keepsMonitors_actionOf code) hs

theorem fit_writeWindow (w : WindowWord) (v : Word) (hs : MonitorsFit s) : MonitorsFit (writeWindow w v s) := by
  cases w with
  | command => exact fit_command _ hs
  | ident => exact hs
  | result => exact hs
  | unnamed => exact hs
  | budget => exact hs.of_same rfl rfl
  | status => exact hs.of_same rfl rfl
  | param => exact hs.of_same rfl rfl
  | eventPending => exact hs.of_same rfl rfl
  | eventRoute => exact hs.of_same rfl rfl
  | retry => exact hs.of_same rfl rfl
  | tgtTimeout => exact hs.of_same rfl rfl

/-! ## Steps -/

/-- GO_IDLE finishes the requests of a COUNTING monitor, which stays so, and then it goes idle (R149). -/
theorem fit_execGoIdle (m : Fin 16) (hs : MonitorsFit s) (h : exec (.goIdle m) s = .next t) : MonitorsFit t := by
  by_cases hc : (s.mon m).state = .counting ∧ (s.mon m).count = 1
  · rw [exec_goIdle hc.1 hc.2] at h
    cases h
    refine fit_goIdle (fit_finishAsks m (hs.of_same rfl rfl)) ?_
    rw [(finishAsks_quieted (s := s.tickTaken m) m m).state, show ((s.tickTaken m).mon m).state = .counting from hc.1]
    nofun
  · rw [show exec (.goIdle m) s = .next s from congrArg _ (if_neg hc)] at h
    cases h
    exact hs

theorem fit_exec (c : Instr) (h : exec c s = .next t) (hs : MonitorsFit s) : MonitorsFit t := by
  cases c
  case goIdle m => exact fit_execGoIdle m hs h
  all_goals cases h
  case powerOnReset defsel => exact (powerOn_monitorsFit defsel (vmap IPort.irst s.ports)).of_same rfl rfl
  case irstNAssert i => exact (aside_assertIrst i).fit hs
  case acceptRequest i r => exact (aside_acceptRequest i r).fit hs
  case reResolution i => exact (aside_reResolve i).fit hs
  case responseTaken i => exact (aside_takeResponse i).fit hs
  case arbiterGrant p => exact (aside_grant p).fit hs
  case targetResponse p n c d => exact (aside_targetAnswers p n c d).fit hs
  case responseTimerExpiry p => exact (aside_expireTimer p).fit hs
  case restoreEnd p => exact (aside_endRestore p).fit hs
  case lineBegin => exact aside_beginLine.fit hs
  case jobActivate => exact aside_activateJob.fit hs
  case jobStart => exact aside_beginJob.fit hs
  case stage => exact fit_command 0x01 hs
  case activate => exact fit_command 0x02 hs
  case modify => exact fit_command 0x03 hs
  case retire => exact fit_command 0x04 hs
  case readDescriptor => exact fit_command 0x05 hs
  case probe => exact fit_command 0x06 hs
  case queueMigration => exact fit_command 0x07 hs
  case cancelJob => exact fit_command 0x08 hs
  case queryJob => exact fit_command 0x09 hs
  case haltEngine => exact fit_command 0x0A hs
  case resumeEngine => exact fit_command 0x0B hs
  case setMonitor => exact fit_command 0x0C hs
  case stopMonitor => exact fit_command 0x0D hs
  case readMonitor => exact fit_command 0x0E hs
  case restoreTarget => exact fit_command 0x0F hs
  case restart => exact fit_command 0x10 hs
  case unknownCommand v => exact fit_writeWindow .command v hs
  case commandOverrun v => exact fit_writeWindow .command v hs
  case registerWrite off v => exact fit_writeWindow _ v hs
  all_goals exact hs.of_same rfl rfl

theorem fit_takeEvent (e : PartEvent) (hs : MonitorsFit s) : MonitorsFit (takeEvent e s) := by
  cases e with
  | activate => exact aside_activateJob.fit hs
  | start => exact aside_beginJob.fit hs
  | line => exact aside_beginLine.fit hs
  | ask m => exact fit_takeAsk m hs
  | arrive a => exact fit_takeArrival a (hs.of_same rfl rfl)

theorem aside_expiry {f : State → State} (h : f ∈ expiries u) (s : State) : MonitorsAside s (f s) := by
  simp only [expiries, List.mem_append, List.mem_map] at h
  rcases h with ((⟨p, _, rfl⟩ | ⟨p, _, rfl⟩) | h) | ⟨src, _, rfl⟩
  · exact aside_expireTimer p
  · exact aside_endRestore p
  · split at h
    · rw [List.mem_singleton.1 h]; exact .of_same rfl rfl
    · cases h
  · exact .of_same rfl rfl

theorem aside_microsecond : MonitorsAside s (microsecond s) :=
  List.foldlRecOn (motive := MonitorsAside s) (expiries s) _ (.of_same rfl rfl)
    fun v hv _ hf => hv.trans (aside_expiry hf v)

theorem fit_partStep (hs : MonitorsFit s) : MonitorsFit (partStep s) := by
  rcases partStep_cases s with ⟨_, h⟩ | ⟨_, ⟨_, h⟩ | ⟨e, _, n, h⟩⟩ <;> rw [h]
  · exact hs
  · exact aside_microsecond.fit hs
  · exact fit_takeEvent e (hs.of_same rfl rfl)

theorem fit_step (h : step s = .next t) (hs : MonitorsFit s) : MonitorsFit t := by
  unfold step at h
  split at h
  · cases h; exact fit_partStep hs
  · next c rest _ => exact fit_exec c h (hs.of_same rfl rfl)

/-- Settles O59: only RETIRE takes the subject of a running monitor out of use, and it finishes the monitor's requests and
puts it OFF. -/
theorem monitorsStayFit : Obligations.MonitorsStayFit := fun _ _ hs h => fit_step h hs

end Sys2Proof.Machine
end

section
/-! SUPPORT. A tick at a monitor, and SET MONITOR and STOP MONITOR with their checks (R145, R146, R149, R152, R153). -/

namespace Sys2Proof.Machine

variable {s : State} {m : Fin 16}

/-! ## A tick at a monitor (R145, R146) -/

/-- A source that expires sends its tick to the monitors that run on it (R145). -/
theorem exec_tick (src : TickSel) (s : State) : exec (.tick src) s = .next { s with
    ticks := upd s.ticks (tickIdx src) (tickPeriod src)
    arrivals := s.arrivals ++ ((List.finRange 16).filter fun m =>
      decide ((s.mon m).tickSel = src ∧ (s.mon m).state ≠ .off)).map fun m => .tick m src } := by
  simp only [Bool.decide_and]; rfl

section
variable {src : TickSel}

/-- A tick of another source than the monitor selects, or one that finds it not COUNTING, changes nothing (R146). -/
theorem takeArrival_tick_ignored (h : (s.mon m).tickSel ≠ src ∨ (s.mon m).state ≠ .counting) :
    takeArrival (.tick m src) s = s := by
  rw [takeArrival]
  split
  · next hsel =>
    have hstate : (s.mon m).state ≠ .counting := h.resolve_left (not_not.2 hsel)
    unfold takeTick
    split
    · rfl
    · rfl
    · next hc => exact absurd hc hstate
  · rfl

/-- A COUNTING monitor above 1 counts down (R146). -/
theorem takeArrival_tick_down (hsel : (s.mon m).tickSel = src) (hc : (s.mon m).state = .counting)
    (h : 1 < (s.mon m).count) :
    takeArrival (.tick m src) s = s.modMon m fun x => { x with count := x.count - 1 } := by
  rw [takeArrival, if_pos hsel, takeTick, hc]
  exact if_neg (Nat.not_le.2 h)

/-- A COUNTING monitor at 1 goes idle (R146, R149). -/
theorem takeArrival_tick_last (hsel : (s.mon m).tickSel = src) (hc : (s.mon m).state = .counting)
    (h : (s.mon m).count = 1) : takeArrival (.tick m src) s = goIdle m s := by
  rw [takeArrival, if_pos hsel, takeTick, hc]
  exact if_pos (Nat.le_of_eq h)

end

/-- Settles O47: the tick is taken by the one monitor as it stands when the tick arrives. -/
theorem tickCountsDown : Obligations.TickCountsDown := by
  refine ⟨fun src s => ?_, fun m src s _ => ⟨fun h => ?_, fun hsel hc => ⟨fun h => ?_, fun h => ?_⟩⟩⟩
  · refine (exec_tick src s).trans ?_
    cases src <;> rfl
  · exact takeArrival_tick_ignored (s := { s with arrivals := s.arrivals.erase (.tick m src) }) h
  · exact takeArrival_tick_down (s := { s with arrivals := s.arrivals.erase (.tick m src) }) hsel hc h
  · exact takeArrival_tick_last (s := { s with arrivals := s.arrivals.erase (.tick m src) }) hsel hc h

/-! ## The ranges of SET MONITOR's fields (R152, R177) -/

theorem tickOfCode_eq_none (c : Nat) : tickOfCode c = none ↔ 3 < c := by
  unfold tickOfCode; split_ifs <;> simp <;> omega

theorem filterOfCode_eq_none (c : Nat) : filterOfCode c = none ↔ 2 < c := by
  unfold filterOfCode; split_ifs <;> simp <;> omega

theorem modeOfCode_eq_none_iff (c : Nat) : modeOfCode c = none ↔ 1 < c := by
  unfold modeOfCode; split_ifs <;> simp <;> omega

/-- A template is out of range in its presence, or when present in its target, mode or base. -/
theorem parseTemplate_eq_none (a b : Word) : parseTemplate a b = none ↔
    1 < bits a 0 8 ∨ bits a 0 8 = 1 ∧ (3 < bits a 8 8 ∨ 1 < bits a 16 8 ∨ 2 ^ 28 ≤ b.toNat) := by
  unfold parseTemplate
  dsimp only
  split_ifs with h0 h1
  · simp [h0]
  · have hwin := windowOf_eq_none (bits a 8 8) b.toNat
    have hmode := modeOfCode_eq_none_iff (bits a 16 8)
    split
    · next w n hw hn =>
      rw [hw] at hwin
      rw [hn] at hmode
      simp only [reduceCtorEq, false_iff] at hwin hmode ⊢
      omega
    · next hnone =>
      refine iff_of_true rfl (.inr ⟨h1, ?_⟩)
      cases hw : windowOf (bits a 8 8) b.toNat with
      | none => have := hwin.1 hw; omega
      | some w =>
        cases hn : modeOfCode (bits a 16 8) with
        | none => exact .inr (.inl (hmode.1 hn))
        | some n => exact (hnone w n hw hn).elim
  · exact iff_of_true rfl (.inl (by omega))

theorem parseMonitor_eq_none (p : Vector Word 6) : parseMonitor p = none ↔
    bits (look p 0) 16 16 = 0 ∨ 255 < bits (look p 0) 16 16 ∨ tickOfCode (bits (look p 1) 0 8) = none ∨
      filterOfCode (bits (look p 1) 8 8) = none ∨ parseTemplate (look p 2) (look p 3) = none ∨
      parseTemplate (look p 4) (look p 5) = none := by
  unfold parseMonitor
  dsimp only
  split
  · next hr => exact iff_of_true rfl (by omega)
  · next hr =>
    obtain ⟨h0, h255⟩ := not_or.1 hr
    simp only [h0, h255, false_or]
    split
    · next ht hf hi hw => simp [ht, hf, hi, hw]
    · next h =>
      refine iff_of_true rfl ?_
      by_contra hall
      simp only [not_or, ← ne_eq, Option.ne_none_iff_exists'] at hall
      obtain ⟨⟨a, ha⟩, ⟨b, hb⟩, ⟨c, hc⟩, d, hd⟩ := hall
      exact h a b c d ha hb hc hd

/-! ## SET MONITOR (R152) -/

theorem withMonitor_eq {n : Nat} {act : Fin 16 → Action} (h : n = m.val) : withMonitor n act s = act m s := by
  subst h; exact dif_pos m.isLt

theorem withMonitor_above {n : Nat} {act : Fin 16 → Action} (h : 15 < n) : withMonitor n act s = refuse .range s :=
  dif_neg (by omega)

/-- SET MONITOR of monitor m on subject d, past the check of the subject's range (R152 checks 4 and 5). -/
def setMonitorOn (m : Fin 16) (d : Fin 64) : Action := fun s =>
  if !(s.desc (ordIdx d)).inUse then refuse .state s
  else
    match parseMonitor s.mgmt.latched with
    | none => refuse .range s
    | some f => finished (bindMonitor m d f s)

theorem Desc.inUse_iff (x : Desc) : x.inUse = true ↔ x.state = .live ∨ x.state = .migrating := by
  simp [Desc.inUse]

section
variable {d : Fin 64}

theorem setMonitorOn_unused (h : (s.desc (ordIdx d)).inUse ≠ true) : setMonitorOn m d s = refuse .state s :=
  if_pos (by simpa using h)

theorem setMonitorOn_outOfRange (hu : (s.desc (ordIdx d)).inUse = true) (h : parseMonitor s.mgmt.latched = none) :
    setMonitorOn m d s = refuse .range s := by
  simp [setMonitorOn, hu, h]

theorem setMonitorOn_bound {f : MonitorFields} (hu : (s.desc (ordIdx d)).inUse = true)
    (h : parseMonitor s.mgmt.latched = some f) : setMonitorOn m d s = finished (bindMonitor m d f s) := by
  simp [setMonitorOn, hu, h]

end

section
variable {d : Fin 64} (hb : s.mgmt.busy = false) (hm : bits (look s.mgmt.param 0) 0 8 = m.val)
include hb hm

theorem setMonitor_running (h : (s.mon m).state ≠ .off) :
    exec .setMonitor s = .next (commandEnded 0x0C (.refused .state) s) :=
  congrArg _ (writeCommand_refused hb ((withMonitor_eq hm).trans (if_pos h)))

variable (hoff : (s.mon m).state = .off)
include hoff

theorem setMonitor_subject_above (h : 63 < bits (look s.mgmt.param 0) 8 8) :
    exec .setMonitor s = .next (commandEnded 0x0C (.refused .range) s) := by
  refine congrArg _ (writeCommand_refused hb ((withMonitor_eq hm).trans ?_))
  exact (if_neg (not_not.2 hoff)).trans (dif_neg (Nat.not_lt.2 h))

variable (hd : bits (look s.mgmt.param 0) 8 8 = d.val)
include hd

omit hb in
/-- SET MONITOR of a monitor OFF, its subject's number in range (R152). -/
theorem setMonitorAct_eq : setMonitorAct (latchCommand 0x0C s) = setMonitorOn m d (latchCommand 0x0C s) := by
  have hlt : bits (look (latchCommand 0x0C s).mgmt.latched 0) 8 8 < 64 := hd ▸ d.isLt
  have hsub : (⟨_, hlt⟩ : Fin 64) = d := Fin.ext hd
  refine (withMonitor_eq hm).trans ((if_neg (not_not.2 hoff)).trans ((dif_pos hlt).trans ?_))
  rw [hsub]
  rfl

theorem setMonitor_unused (h : (s.desc (ordIdx d)).inUse ≠ true) :
    exec .setMonitor s = .next (commandEnded 0x0C (.refused .state) s) :=
  congrArg _ (writeCommand_refused hb ((setMonitorAct_eq hm hoff hd).trans (setMonitorOn_unused h)))

theorem setMonitor_outOfRange (hu : (s.desc (ordIdx d)).inUse = true) (h : parseMonitor s.mgmt.param = none) :
    exec .setMonitor s = .next (commandEnded 0x0C (.refused .range) s) :=
  congrArg _ (writeCommand_refused hb ((setMonitorAct_eq hm hoff hd).trans (setMonitorOn_outOfRange hu h)))

theorem setMonitor_bound {f : MonitorFields} (hu : (s.desc (ordIdx d)).inUse = true)
    (h : parseMonitor s.mgmt.param = some f) :
    exec .setMonitor s = .next (bindMonitor m d f (commandEnded 0x0C (.done []) s)) :=
  congrArg _ (writeCommand_finished hb ((setMonitorAct_eq hm hoff hd).trans (setMonitorOn_bound hu h)))

end

/-! ## STOP MONITOR (R153) -/

/-- The record that STOP MONITOR leaves (R153). -/
def Monitor.stopped (x : Monitor) : Monitor := { x with state := .off, count := 0, idleJob := none }

section
variable (hb : s.mgmt.busy = false) (hm : bits (look s.mgmt.param 0) 0 8 = m.val)
include hb hm

theorem stopMonitor_off (h : (s.mon m).state = .off) :
    exec .stopMonitor s = .next (commandEnded 0x0D (.refused .state) s) :=
  congrArg _ (writeCommand_refused hb ((withMonitor_eq hm).trans (if_pos h)))

/-- STOP MONITOR finishes the requests of a running monitor, and puts it OFF (R153). -/
theorem stopMonitor_running (h : (s.mon m).state ≠ .off) : exec .stopMonitor s =
    .next ((commandEnded 0x0D (.done []) (finishAsks m s)).modMon m Monitor.stopped) := by
  have hfinish : finishAsks m (latchCommand 0x0D s) = latchCommand 0x0D (finishAsks m s) := by
    rw [latchCommand, finishAsks, takeAsk_modMgmt, takeAsk_modMgmt]; rfl
  refine congrArg _ (writeCommand_finished (t := (latchCommand 0x0D (finishAsks m s)).modMon m Monitor.stopped) hb ?_)
  rw [← hfinish]
  exact (withMonitor_eq hm).trans (if_neg h)

/-- A request still on its way may as well be taken before the command (log entry 27). -/
theorem stopMonitor_takeAsk (h : (s.mon m).state ≠ .off) :
    exec .stopMonitor s = exec .stopMonitor (takeAsk m s) := by
  have hmgmt : (takeAsk m s).mgmt = s.mgmt := (surround_takeAsk m).2.1
  have hrun : ((takeAsk m s).mon m).state ≠ .off := by rwa [(takeAsk_quieted m m).state]
  rw [stopMonitor_running hb hm h, stopMonitor_running (hmgmt ▸ hb) (hmgmt ▸ hm) hrun, finishAsks_takeAsk]

end

/-- Settles O49: each check is met with those before it passed, and STOP MONITOR finds the monitor's requests finished. -/
theorem monitorsAreSetAndStopped : Obligations.MonitorsAreSetAndStopped := by
  refine ⟨fun s hb => ⟨fun h => ?_, fun m hm => ⟨setMonitor_running hb hm, fun hoff =>
    ⟨setMonitor_subject_above hb hm hoff, fun d hd => ⟨fun hlive hmig => ?_, fun hst => ?_⟩⟩⟩⟩, fun p => ?_,
    fun s hb => ⟨fun h => ?_, fun m hm => ⟨stopMonitor_off hb hm, fun hrun =>
      ⟨fun hask => ?_, fun _ => stopMonitor_takeAsk hb hm hrun⟩⟩⟩⟩
  · exact congrArg _ (writeCommand_refused hb (withMonitor_above h))
  · exact setMonitor_unused hb hm hoff hd fun hu => ((Desc.inUse_iff _).1 hu).elim hlive hmig
  · have hu := (Desc.inUse_iff _).2 hst
    exact ⟨setMonitor_outOfRange hb hm hoff hd hu, fun f => setMonitor_bound hb hm hoff hd hu⟩
  · rw [parseMonitor_eq_none, tickOfCode_eq_none, filterOfCode_eq_none, parseTemplate_eq_none, parseTemplate_eq_none]
  · exact congrArg _ (writeCommand_refused hb (withMonitor_above h))
  · rw [stopMonitor_running hb hm hrun, finishAsks_none hask]
    rfl

end Sys2Proof.Machine
end

section
/-! SUPPORT. The event flags and their routes: the class numbers, the writes of the pending and the route words, and the
levels of the two lines (R158 to R163, R178). -/

namespace Sys2Proof.Machine

variable {s : State}

/-- The classes are numbered as R178 says. -/
theorem EventClass.num_values :
    (∀ i, (EventClass.decode i).num.val = i.val ∧ (EventClass.target i).num.val = 4 + i.val ∧
      (EventClass.offline i).num.val = 8 + i.val) ∧
    [EventClass.jobDone, .jobFailed, .jobAborted, .queueRefused, .switched, .retired, .cmdDone].map
      (fun c => c.num.val) = [12, 13, 14, 15, 16, 17, 18] ∧
    ∀ m, (EventClass.idle m).num.val = 19 + m.val ∧ (EventClass.wake m).num.val = 35 + m.val :=
  ⟨fun _ => ⟨rfl, rfl, rfl⟩, rfl, fun _ => ⟨rfl, rfl⟩⟩

/-! ## Writes of the pending and the route words (R160, R162) -/

theorem clearPending_isPending (k : Fin 2) (v : Word) (c : EventClass) : (clearPending k v s).isPending c =
    if c.num.val / 32 = k.val ∧ v.getLsbD (c.num.val % 32) = true then false else s.isPending c :=
  look_tabulate _ _

theorem writeRoutes_routeOf (j : Fin 4) (v : Word) (c : EventClass) : (writeRoutes j v s).routeOf c =
    if c.num.val / 16 = j.val then routeOfCode (bits v (2 * (c.num.val % 16)) 2) else s.routeOf c :=
  look_tabulate _ _

/-- The codes that name a route (R162, R178). -/
theorem routeOfCode_eq (n : Nat) : routeOfCode n = match n with | 1 => .irq | 2 => .alert | _ => .off := by
  match n with
  | 0 => rfl
  | 1 => rfl
  | 2 => rfl
  | _ + 3 => rfl

/-! ## The lines (R163) -/

theorem drives_iff (e : EventCtl) (r : Route) :
    drives e r = true ↔ ∃ n, look e.pending n = true ∧ look e.route n = r := by
  simp [drives]

/-- Out of reset, IRQ is asserted exactly while a pending class is routed to it (R163). -/
theorem irq_iff (h : s.resetAsserted = false) :
    s.irq = true ↔ ∃ n, look s.evc.pending n = true ∧ look s.evc.route n = .irq := by
  rw [State.irq, h, Bool.not_false, Bool.true_and, drives_iff]

/-- Out of reset, ALERT is asserted exactly while a pending class is routed to it (R163). -/
theorem alert_iff (h : s.resetAsserted = false) :
    s.alert = true ↔ ∃ n, look s.evc.pending n = true ∧ look s.evc.route n = .alert := by
  rw [State.alert, h, Bool.not_false, Bool.true_and, drives_iff]

/-- Settles O50: each write rebuilds its own table alone, class by class, and the lines are read off the tables. -/
theorem eventFlagsAndRoutes : Obligations.EventFlagsAndRoutes := by
  refine ⟨EventClass.num_values, fun c e s => ⟨raise_flag c e s, rfl, rfl⟩,
    fun k v s => ⟨clearPending k v s, rfl, clearPending_isPending k v, rfl⟩,
    fun j v s => ⟨writeRoutes j v s, rfl, fun c => ?_, rfl, fun h => ⟨irq_iff h, alert_iff h⟩⟩⟩
  exact (writeRoutes_routeOf j v c).trans (if_congr Iff.rfl (routeOfCode_eq _) rfl)

end Sys2Proof.Machine
end

section
/-! SUPPORT. What the window shows: which word stands at each offset, the fields of STATUS, and each class's flag and route
in the words of the Event Controller (R164, R168, R172, R178). -/

namespace Sys2Proof.Machine

variable {s : State}

/-! ## The words by offset (R168) -/

theorem windowAt_param : ∀ k : Fin 6, windowAt (BitVec.ofNat 6 (4 + k.val)) = .param k := by decide

theorem windowAt_result : ∀ k : Fin 8, windowAt (BitVec.ofNat 6 (16 + k.val)) = .result k := by decide

theorem windowAt_eventPending : ∀ k : Fin 2, windowAt (BitVec.ofNat 6 (24 + k.val)) = .eventPending k := by decide

theorem windowAt_eventRoute : ∀ j : Fin 4, windowAt (BitVec.ofNat 6 (28 + j.val)) = .eventRoute j := by decide

theorem windowAt_unnamed {off : BitVec 6} (h : off.toNat = 3 ∨ (10 ≤ off.toNat ∧ off.toNat < 16) ∨ off.toNat = 26 ∨
    off.toNat = 27 ∨ 34 < off.toNat) : windowAt off = .unnamed := by
  unfold windowAt
  dsimp only
  rw [if_neg (by omega), if_neg (by omega), if_neg (by omega), dif_neg (by omega), dif_neg (by omega),
    dif_neg (by omega), dif_neg (by omega), if_neg (by omega), if_neg (by omega), if_neg (by omega)]

/-! ## STATUS (R172) -/

theorem engStateCode_lt (st : EngState) : engStateCode st < 2 ^ 3 := by cases st <;> decide

theorem statusWord_packs (hq : s.eng.queue.length ≤ 8) : Packs (statusWord s)
    (flag s.mgmt.busy + flag s.mgmt.overrun * 2 ^ 1 + s.mgmt.lastReason.toNat * 2 ^ 4 +
      s.mgmt.lastCommand.toNat * 2 ^ 8 + engStateCode s.eng.state * 2 ^ 16 + flag s.eng.haltPending * 2 ^ 19 +
      s.eng.queue.length * 2 ^ 20) 24 :=
  ((((((packs_place (flag_lt _) (by decide)).or (by decide) (flag_lt _) (by decide)).or
    (by decide) s.mgmt.lastReason.isLt (by decide)).or (by decide) s.mgmt.lastCommand.isLt (by decide)).or
    (by decide) (engStateCode_lt _) (by decide)).or (by decide) (flag_lt _) (by decide)).or
    (len := 4) (by decide) (by omega) (by decide)

/-- STATUS carries each field in its place, and 0 in the places that it does not name (R172). -/
theorem statusWord_fields (hq : s.eng.queue.length ≤ 8) :
    bits (statusWord s) 0 1 = flag s.mgmt.busy ∧ bits (statusWord s) 1 1 = flag s.mgmt.overrun ∧
    bits (statusWord s) 2 2 = 0 ∧ bits (statusWord s) 4 4 = s.mgmt.lastReason.toNat ∧
    bits (statusWord s) 8 8 = s.mgmt.lastCommand.toNat ∧ bits (statusWord s) 16 3 = engStateCode s.eng.state ∧
    bits (statusWord s) 19 1 = flag s.eng.haltPending ∧ bits (statusWord s) 20 4 = s.eng.queue.length ∧
    bits (statusWord s) 24 8 = 0 := by
  have hb := flag_lt s.mgmt.busy
  have ho := flag_lt s.mgmt.overrun
  have hr := s.mgmt.lastReason.isLt
  have hc := s.mgmt.lastCommand.isLt
  have he := engStateCode_lt s.eng.state
  have hh := flag_lt s.eng.haltPending
  simp only [bits_eq_div_mod, (statusWord_packs hq).1]
  omega

theorem engStateCode_eq (st : EngState) : engStateCode st = match st with
    | .idle => 0 | .starting => 1 | .copying => 2 | .cutover => 3 | .aborting => 4 | .halted => 5 := by
  cases st <;> rfl

/-! ## Words of one field for each class (R178) -/

theorem testBit_bits (w : Word) (lo len i : Nat) :
    (bits w lo len).testBit i = (decide (i < len) && w.getLsbD (lo + i)) := by
  rw [bits, Nat.testBit_mod_two_pow, Nat.testBit_shiftRight, BitVec.testBit_toNat]

/-- A bit that is set in a placed field lies in the field's place. -/
theorem place_bit_within {v lo len i : Nat} (hv : v < 2 ^ len) (h : (place v lo).getLsbD i = true) :
    lo ≤ i ∧ i < lo + len := by
  simp only [getLsbD_place, Bool.and_eq_true, decide_eq_true_eq] at h
  obtain ⟨⟨-, hlo⟩, hbit⟩ := h
  have hlen : i - lo < len := (Nat.pow_lt_pow_iff_right (by decide)).1 ((Nat.ge_two_pow_of_testBit hbit).trans_lt hv)
  exact ⟨hlo, by omega⟩

/-- The word of the classes numbered from `per * k` up, `per` of them, with the field `f n` of `len` bits for each. -/
def classWord (f : Fin 51 → Nat) (len per k : Nat) : Word :=
  (List.finRange 51).foldl (fun w n => if n.val / per = k then w ||| place (f n) (len * (n.val % per)) else w) 0

theorem pendingWord_eq (k : Nat) (s : State) :
    pendingWord k s = classWord (fun n => flag (look s.evc.pending n)) 1 32 k := by
  simp only [pendingWord, classWord, Nat.one_mul]

theorem routeWord_eq (j : Nat) (s : State) :
    routeWord j s = classWord (fun n => routeCode (look s.evc.route n)) 2 16 j := rfl

/-- A bit of a word that fields are placed in, one after another, is set when it was set or some field sets it. -/
theorem getLsbD_foldl_place {α : Type} (p : α → Prop) [DecidablePred p] (f lo : α → Nat) (i : Nat) (l : List α)
    (w : Word) :
    (l.foldl (fun w n => if p n then w ||| place (f n) (lo n) else w) w).getLsbD i = true ↔
      w.getLsbD i = true ∨ ∃ n ∈ l, p n ∧ (place (f n) (lo n)).getLsbD i = true := by
  induction l generalizing w with
  | nil => simp
  | cons a l ih =>
    rw [List.foldl_cons, ih]
    by_cases ha : p a <;> simp [ha, or_assoc]

theorem getLsbD_classWord (f : Fin 51 → Nat) (len per k i : Nat) : (classWord f len per k).getLsbD i = true ↔
    ∃ n : Fin 51, n.val / per = k ∧ (place (f n) (len * (n.val % per))).getLsbD i = true := by
  rw [classWord, getLsbD_foldl_place]
  simp

/-- Fields of `len` bits side by side do not overlap: a set bit of one lies in the place of that one alone. -/
theorem place_field_unique {v len a b i : Nat} (hv : v < 2 ^ len) (hi : i < len)
    (h : (place v (len * a)).getLsbD (len * b + i) = true) : a = b := by
  obtain ⟨hlo, hhi⟩ := place_bit_within hv h
  have hab : a < b + 1 := Nat.lt_of_mul_lt_mul_left (a := len) (by rw [Nat.mul_succ]; omega)
  have hba : b < a + 1 := Nat.lt_of_mul_lt_mul_left (a := len) (by rw [Nat.mul_succ]; omega)
  omega

/-- Each class's field stands in its place of its word, whatever the other classes' fields hold. -/
theorem bits_classWord {f : Fin 51 → Nat} {len per : Nat} (hf : ∀ n, f n < 2 ^ len) (hfit : len * per ≤ 32)
    (hper : 0 < per) (m : Fin 51) :
    bits (classWord f len per (m.val / per)) (len * (m.val % per)) len = f m := by
  apply Nat.eq_of_testBit_eq
  intro i
  rw [testBit_bits]
  by_cases hi : i < len
  · have hroom : len * (m.val % per) + i < 32 := calc
      len * (m.val % per) + i < len * (m.val % per + 1) := by rw [Nat.mul_succ]; omega
      _ ≤ len * per := Nat.mul_le_mul_left len (Nat.mod_lt _ hper)
      _ ≤ 32 := hfit
    have hself : (place (f m) (len * (m.val % per))).getLsbD (len * (m.val % per) + i) = (f m).testBit i := by
      rw [getLsbD_place]
      simp [hroom]
    rw [decide_eq_true hi, Bool.true_and, ← hself, Bool.eq_iff_iff, getLsbD_classWord]
    constructor
    · rintro ⟨n, hgroup, hbit⟩
      have hplace := place_field_unique (hf n) hi hbit
      have hnm : n = m := Fin.ext (by rw [← Nat.div_add_mod n.val per, hgroup, hplace, Nat.div_add_mod])
      rwa [hnm] at hbit
    · exact fun hbit => ⟨m, rfl, hbit⟩
  · have hsmall : f m < 2 ^ i := (hf m).trans_le (Nat.pow_le_pow_right (by decide) (by omega))
    rw [decide_eq_false hi, Bool.false_and, Nat.testBit_lt_two_pow hsmall]

/-! ## The words of the Event Controller (R164) -/

theorem routeCode_lt (r : Route) : routeCode r < 2 ^ 2 := by cases r <;> decide

theorem routeCode_eq (r : Route) : routeCode r = match r with | .off => 0 | .irq => 1 | .alert => 2 := by
  cases r <;> rfl

theorem flag_testBit (b : Bool) : (flag b).testBit 0 = b := by cases b <;> rfl

/-- A class's flag stands at its bit of its pending word (R164, R178). -/
theorem pendingWord_flag (c : EventClass) :
    (pendingWord (c.num.val / 32) s).getLsbD (c.num.val % 32) = s.isPending c := by
  have hfield := bits_classWord (per := 32) (fun n => flag_lt (look s.evc.pending n)) (by decide) (by decide) c.num
  rw [← pendingWord_eq, Nat.one_mul] at hfield
  have hbit := congrArg (Nat.testBit · 0) hfield
  simp only [testBit_bits, flag_testBit] at hbit
  exact hbit

/-- A class's route code stands in its field of its route word (R164, R178). -/
theorem routeWord_code (c : EventClass) :
    bits (routeWord (c.num.val / 16) s) (2 * (c.num.val % 16)) 2 = routeCode (s.routeOf c) :=
  bits_classWord (fun n => routeCode_lt (look s.evc.route n)) (by decide) (by decide) c.num

theorem readWord_eventPending (k : Fin 2) : readWord (BitVec.ofNat 6 (24 + k.val)) s = pendingWord k.val s := by
  rw [readWord, windowAt_eventPending, windowValue]

theorem readWord_eventRoute (j : Fin 4) : readWord (BitVec.ofNat 6 (28 + j.val)) s = routeWord j.val s := by
  rw [readWord, windowAt_eventRoute, windowValue]

/-- Settles O54: the offset picks the word, and each field of the word is found in its place. -/
theorem windowReadsTheState : Obligations.WindowReadsTheState := by
  refine ⟨EventClass.num_values, fun s hq => ⟨rfl, ?_, ?_, fun k => ?_, fun k => ?_, fun c => ⟨?_, ?_⟩, rfl, rfl, rfl,
    fun off h => ?_⟩⟩
  · have hstatus := statusWord_fields hq
    rw [engStateCode_eq] at hstatus
    exact hstatus
  · exact (packs_place s.mgmt.command.isLt (by decide)).1
  · rw [readWord, windowAt_param, windowValue]
  · rw [readWord, windowAt_result, windowValue]
  · rw [readWord_eventPending ⟨c.num.val / 32, by omega⟩, pendingWord_flag]
  · rw [readWord_eventRoute ⟨c.num.val / 16, by omega⟩]
    exact (routeWord_code c).trans (routeCode_eq _)
  · rw [readWord, windowAt_unnamed h, windowValue]

end Sys2Proof.Machine
end

section
/-! SUPPORT. The Management Port: the rows that write COMMAND, the end of a command, and the writes of the window that store
a word or are ignored (R168 to R171, R173). -/

namespace Sys2Proof.Machine

variable {s : State}

/-! ## The rows that write COMMAND (R169, R171, R173) -/

/-- The code that a row writes to COMMAND; none for a row that writes no command. -/
def commandCode : Instr → Option (BitVec 8)
  | .stage => some 0x01
  | .activate => some 0x02
  | .modify => some 0x03
  | .retire => some 0x04
  | .readDescriptor => some 0x05
  | .probe => some 0x06
  | .queueMigration => some 0x07
  | .cancelJob => some 0x08
  | .queryJob => some 0x09
  | .haltEngine => some 0x0A
  | .resumeEngine => some 0x0B
  | .setMonitor => some 0x0C
  | .stopMonitor => some 0x0D
  | .readMonitor => some 0x0E
  | .restoreTarget => some 0x0F
  | .restart => some 0x10
  | .unknownCommand v => some (BitVec.ofNat 8 (bits v 0 8))
  | .commandOverrun v => some (BitVec.ofNat 8 (bits v 0 8))
  | _ => none

/-- Every row that writes COMMAND is a write of its code, acted on by the code's owner. -/
theorem exec_commandCode {c : Instr} {code : BitVec 8} (h : commandCode c = some code) :
    exec c s = .next (writeCommand code (actionOf code) s) := by
  cases c <;> cases h <;> rfl

/-- A COMMAND write while CMD_BUSY is 1 sets OVERRUN, whichever row sends it (R171). -/
theorem exec_command_busy {c : Instr} (hc : (commandCode c).isSome = true) (hb : s.mgmt.busy = true) :
    exec c s = .next (overrun s) := by
  obtain ⟨code, hcode⟩ := Option.isSome_iff_exists.1 hc
  rw [exec_commandCode hcode, writeCommand_busy s hb]

/-- No block acts on a code that is not assigned (R173). -/
theorem actionOf_unassigned {code : BitVec 8} (h : code.toNat = 0 ∨ 16 < code.toNat) :
    actionOf code = refuse .unknown := by
  unfold actionOf
  split
  case h_17 => rfl
  all_goals omega

/-- The code in a COMMAND word is its low byte (R169). -/
theorem commandByte_toNat (v : Word) : (BitVec.ofNat 8 (bits v 0 8)).toNat = bits v 0 8 := by
  rw [BitVec.toNat_ofNat, bits, Nat.mod_mod]

/-- Settles O52: every COMMAND write goes by `writeCommand`, which CMD_BUSY turns into an overrun, and the owner of a code
that is not assigned is a refusal. -/
theorem commandWritesWhileBusyOrUnassigned : Obligations.CommandWritesWhileBusyOrUnassigned := by
  refine ⟨fun s hb => ⟨fun v => ⟨exec_command_busy rfl hb, exec_command_busy rfl hb⟩, fun c hc => ?_⟩,
    fun v s => rfl, fun v s hb hcode => ?_⟩
  · refine exec_command_busy ?_ hb
    revert c
    decide
  · rw [← commandByte_toNat] at hcode
    rw [exec_commandCode (c := .unknownCommand v) rfl]
    exact congrArg _ (writeCommand_refused hb (congrFun (actionOf_unassigned hcode) _))

/-! ## The end of a command (R169, R170) -/

theorem CmdEnd.code_eq (e : CmdEnd) : e.code = match e with
    | .done _ => 0 | .refused .state => 1 | .refused .busy => 2 | .refused .align => 3 | .refused .range => 4
    | .refused .route => 5 | .refused .conflict => 6 | .refused .full => 7 | .refused .duplicate => 8
    | .refused .overlap => 9 | .refused .late => 10 | .refused .notFound => 11 | .refused .unknown => 12 := by
  rcases e with _ | r
  · rfl
  · cases r <;> rfl

theorem CmdEnd.code_lt (e : CmdEnd) : e.code < 2 ^ 4 := by
  rcases e with _ | r
  · exact Nat.two_pow_pos 4
  · cases r <;> decide

/-- RESULT0 holds the reason in its low bits and the command's code above it (R170). -/
theorem resultWords_zero_packs (code : BitVec 8) (e : CmdEnd) :
    Packs (look (resultWords code e) 0) (e.code + code.toNat * 2 ^ 8) 16 := by
  rw [resultWords, look_tabulate]
  exact (packs_place e.code_lt (by decide)).or (by decide) code.isLt (by decide)

/-- RESULT1 to RESULT7 hold the data words of the end (R170). -/
theorem resultWords_data (code : BitVec 8) (e : CmdEnd) {n : Fin 8} (h : n ≠ 0) :
    look (resultWords code e) n = e.words.getD (n.val - 1) 0 := by
  rw [resultWords, look_tabulate, if_neg (Fin.val_ne_zero_iff.2 h)]

/-- Settles O51: the result words are packed of reason and code, and the end writes the port's own words and one flag. -/
theorem commandEndReportsTheResult : Obligations.CommandEndReportsTheResult := by
  intro code e s t reason
  have hreason : e.code = reason := e.code_eq
  have hlt : reason < 2 ^ 4 := hreason ▸ e.code_lt
  obtain ⟨hresult, -⟩ : Packs (look t.mgmt.result 0) (reason + code.toNat * 2 ^ 8) 16 :=
    hreason ▸ resultWords_zero_packs code e
  refine ⟨rfl, rfl, rfl, ?_, ?_, ?_, fun n hn => ?_, rfl, rfl, rfl, rfl, rfl, rfl,
    endCommand_flag e, rfl, rfl⟩
  · calc t.mgmt.lastReason.toNat = e.code % 2 ^ 4 := BitVec.toNat_ofNat ..
      _ = reason := by rw [hreason, Nat.mod_eq_of_lt hlt]
  · rw [bits_eq_div_mod, hresult]
    omega
  · exact BitVec.eq_of_toNat_eq (by rw [hresult, BitVec.toNat_ofNat]; omega)
  · refine (resultWords_data code e hn).trans ?_
    cases e <;> rfl

/-! ## Writes that store a PARAM word or are ignored (R168, R169) -/

/-- IDENT, the RESULT words and what is not named take no write (R168). -/
theorem writeWindow_ignored {w : WindowWord} (h : w = .ident ∨ (∃ k, w = .result k) ∨ w = .unnamed) (v : Word) :
    writeWindow w v s = s := by
  obtain rfl | ⟨k, rfl⟩ | rfl := h <;> rfl

/-- Where the words that take no write stand (R168). -/
theorem windowAt_ignored {off : BitVec 6} (h : off.toNat = 0 ∨ off.toNat = 3 ∨ (10 ≤ off.toNat ∧ off.toNat < 24) ∨
    off.toNat = 26 ∨ off.toNat = 27 ∨ 34 < off.toNat) :
    windowAt off = .ident ∨ (∃ k, windowAt off = .result k) ∨ windowAt off = .unnamed := by
  by_cases hident : off.toNat = 0
  · exact .inl (if_pos hident)
  by_cases hresult : 16 ≤ off.toNat ∧ off.toNat < 24
  · obtain ⟨k, hk⟩ : ∃ k : Fin 8, off.toNat = 16 + k.val := ⟨⟨off.toNat - 16, by omega⟩, by dsimp only; omega⟩
    exact .inr (.inl ⟨k, by rw [(BitVec.toNat_eq_nat.1 hk).2, windowAt_result]⟩)
  · exact .inr (.inr (windowAt_unnamed (by omega)))

/-- Settles O53: the offset picks the word, and a PARAM word is stored whatever CMD_BUSY is. -/
theorem paramWriteStoresAndReadsBack : Obligations.ParamWriteStoresAndReadsBack := by
  refine fun off v s => ⟨fun k hk => ?_, fun h => congrArg _ (writeWindow_ignored (windowAt_ignored h) v)⟩
  have hparam : windowAt off = .param k := by rw [(BitVec.toNat_eq_nat.1 hk).2, windowAt_param]
  refine ⟨writeWindow (windowAt off) v s, rfl, ?_, ?_⟩
  · rw [hparam]; rfl
  · rw [hparam]; exact look_upd_self ..

end Sys2Proof.Machine
end

section
/-! SUPPORT. One step: with a command at the front of the queue, and with none (log entries 1 and 2). -/

namespace Sys2Proof.Machine

variable {s : State}

/-! ## What a step runs -/

/-- A command at the front of the queue is run on the state with the queue's rest. -/
theorem step_front {c : Instr} {rest : List Instr} (h : s.pending = c :: rest) :
    step s = exec c { s with pending := rest } := by
  rw [step, h]

/-- With no command waiting the part goes on of its own accord. -/
theorem step_empty (h : s.pending = []) : step s = .next (partStep s) := by
  rw [step, h]

/-- Settles O1. -/
theorem stepRunsTheFrontCommand : Obligations.StepRunsTheFrontCommand := fun _ _ _ => step_front rfl

/-- While RESET_N is asserted nothing happens (log entry 10). -/
theorem partStep_reset (h : s.resetAsserted = true) : partStep s = s := if_pos h

/-- With nothing due a microsecond passes (log entry 2). -/
theorem partStep_quiet (h : s.resetAsserted = false) (hd : dueEvents s = []) : partStep s = microsecond s := by
  rw [partStep, if_neg (by rw [h]; nofun), hd]

/-- Of the events that are due one is taken (log entries 1, 6 and 27). -/
theorem partStep_due (h : s.resetAsserted = false) (hd : dueEvents s ≠ []) :
    ∃ e ∈ dueEvents s, ∃ n, partStep s = takeEvent e { s with freeDraws := n } := by
  rcases partStep_cases s with ⟨hr, _⟩ | ⟨_, ⟨hnone, _⟩ | htaken⟩
  · rw [h] at hr; cases hr
  · exact absurd hnone hd
  · exact htaken

/-! ## A microsecond as commands (R92, R98, R131, R145) -/

/-- The state that a command leaves; the state before it where the command does not go on. -/
def afterExec (c : Instr) (s : State) : State :=
  match exec c s with
  | .next t => t
  | .fault _ => s
  | .refused _ => s

/-- The commands whose meanings are the expiries of a microsecond, in the order in which they are taken (log entry 3). -/
def expiryCommands (s : State) : List Instr :=
  ((four.filter fun t => lastMicrosecond (s.tport t).timer).map .responseTimerExpiry) ++
    ((four.filter fun t => lastMicrosecond (s.tport t).restoring).map .restoreEnd) ++
    (if s.eng.budgetTimer ≤ 1 then [.budgetExpiry] else []) ++
    (([.t100u, .t1m, .t10m, .t100m].filter fun src => decide (look s.ticks (tickIdx src) ≤ 1)).map .tick)

/-- Each expiry of a microsecond is what its command does. -/
theorem expiries_eq_commands (s : State) : expiries s = (expiryCommands s).map afterExec := by
  have htimer : afterExec ∘ Instr.responseTimerExpiry = expireTimer := rfl
  have hrestore : afterExec ∘ Instr.restoreEnd = endRestore := rfl
  have hbudget : afterExec .budgetExpiry = expireBudget := rfl
  have htick : afterExec ∘ Instr.tick = expireSource := rfl
  simp only [expiries, expiryCommands, List.map_append, List.map_map, apply_ite (List.map afterExec), List.map_cons,
    List.map_nil, htimer, hrestore, hbudget, htick]

/-- A microsecond is the fall of the running counts and then the commands of those that end. -/
theorem microsecond_eq_commands (s : State) :
    microsecond s = (expiryCommands s).foldl (fun v c => afterExec c v) (countAll s) := by
  rw [microsecond, expiries_eq_commands, List.foldl_map]

theorem lastMicrosecond_eq_any (left : Option Nat) : lastMicrosecond left = left.any fun n => decide (n ≤ 1) := by
  cases left <;> rfl

/-- A filter of one entry may be taken after a map as well as before it. -/
theorem map_filter_singleton {α β : Type} (f : α → β) (p : α → Bool) (a : α) :
    ([a].filter p).map f = [f a].filter fun _ => p a := by
  rw [List.filter_singleton, List.filter_singleton]
  cases p a <;> rfl

theorem ite_singleton {α : Type} (a : α) (p : Prop) [Decidable p] :
    (if p then [a] else []) = [a].filter fun _ => decide p := by
  rw [List.filter_singleton, Bool.cond_decide]

/-- The tick sources are looked at one after another (log entry 3). -/
theorem tick_commands (p : TickSel → Bool) :
    ([.t100u, .t1m, .t10m, .t100m].filter p).map Instr.tick =
      ([Instr.tick .t100u].filter fun _ => p .t100u) ++ ([Instr.tick .t1m].filter fun _ => p .t1m) ++
        ([Instr.tick .t10m].filter fun _ => p .t10m) ++ ([Instr.tick .t100m].filter fun _ => p .t100m) := by
  have hlist : [TickSel.t100u, .t1m, .t10m, .t100m] = [.t100u] ++ [.t1m] ++ [.t10m] ++ [.t100m] := rfl
  simp only [hlist, List.filter_append, List.map_append, map_filter_singleton]

/-- The commands of a microsecond, written out. -/
theorem expiryCommands_eq (s : State) : expiryCommands s =
    (([0, 1, 2, 3].filter fun t => (s.tport t).timer.any fun n => decide (n ≤ 1)).map .responseTimerExpiry) ++
      (([0, 1, 2, 3].filter fun t => (s.tport t).restoring.any fun n => decide (n ≤ 1)).map .restoreEnd) ++
      ([Instr.budgetExpiry].filter fun _ => decide (s.eng.budgetTimer ≤ 1)) ++
      ([Instr.tick .t100u].filter fun _ => decide (look s.ticks 0 ≤ 1)) ++
      ([Instr.tick .t1m].filter fun _ => decide (look s.ticks 1 ≤ 1)) ++
      ([Instr.tick .t10m].filter fun _ => decide (look s.ticks 2 ≤ 1)) ++
      ([Instr.tick .t100m].filter fun _ => decide (look s.ticks 3 ≤ 1)) := by
  have hfour : four = [0, 1, 2, 3] := rfl
  simp only [expiryCommands, hfour, lastMicrosecond_eq_any, ite_singleton, tick_commands, List.append_assoc]
  rfl

/-! ## The due events (R107, R109, R110, R123, R145, R147) -/

theorem next_ne_next {t u : State} :
    (Host.Outcome.next t : Host.Outcome State Fault Refusal) ≠ .next u ↔ t ≠ u := by
  rw [Ne, Host.Outcome.next.injEq]

/-- Settles O2: `partStep` takes a due event or a microsecond, and the engine's events are due when they do something. -/
theorem emptyQueueTakesADueEventOrAMicrosecond : Obligations.EmptyQueueTakesADueEventOrAMicrosecond := by
  refine ⟨fun s hs => ?_, fun s => ⟨?_, ?_, ?_, fun m => ?_, fun a => ?_, rfl, rfl, rfl⟩⟩
  · rw [step_empty hs]
    refine ⟨fun hr => congrArg _ (partStep_reset hr), fun hr hd => ?_, fun hr hd => congrArg _ ?_⟩
    · obtain ⟨e, he, n, hstep⟩ := partStep_due hr hd
      exact ⟨e, he, n, congrArg _ hstep⟩
    · rw [partStep_quiet hr hd, microsecond_eq_commands, expiryCommands_eq]
      rfl
  · exact (mem_dueEvents s _).trans ((activationDue_iff s).trans next_ne_next.symm)
  · exact (mem_dueEvents s _).trans ((startDue_iff s).trans next_ne_next.symm)
  · exact (mem_dueEvents s _).trans ((lineDue_iff s).trans next_ne_next.symm)
  · exact (mem_dueEvents s _).trans Option.isSome_iff_ne_none
  · exact (mem_dueEvents s _).trans (and_congr_right fun _ => Option.isNone_iff_eq_none)

end Sys2Proof.Machine
end

section
/-! SUPPORT. No command touches the queue of waiting commands, and every command goes on. -/

namespace Sys2Proof.Machine

variable {s t : State}

/-! ## The queue under the operations -/

theorem SameSurround.pending (h : SameSurround s t) : t.pending = s.pending := by
  obtain ⟨-, -, -, -, -, hpending⟩ := h
  exact hpending

theorem SameButArrivals.pending (h : SameButArrivals s t) : t.pending = s.pending := by
  obtain ⟨-, -, -, -, hpending⟩ := h
  exact hpending

theorem SameWindow.pending (h : SameWindow s t) : t.pending = s.pending := by
  obtain ⟨-, -, -, -, hpending⟩ := h
  exact hpending

theorem endRestore_pending (p : Fin 4) : (endRestore p s).pending = s.pending := by
  unfold endRestore
  split <;> rfl

/-! ## Commands at the Management Port -/

/-- What an owning block does with a command leaves the queue of waiting commands alone. -/
def KeepsPending (act : Action) : Prop := ∀ s, (act s).1.pending = s.pending

/-- A COMMAND write touches the queue no more than the command's own part does (R169). -/
theorem writeCommand_pending {code : BitVec 8} {act : Action} (h : KeepsPending act) :
    (writeCommand code act s).pending = s.pending := by
  have hact : (act (latchCommand code s)).1.pending = s.pending := h _
  rcases writeCommand_cases s code act with hw | ⟨_, ⟨t, e, ha, hw⟩ | ⟨t, ha, hw⟩⟩ <;> rw [hw]
  · rfl
  · rw [ha] at hact; exact hact
  · rw [ha] at hact; exact hact

theorem keepsPending_withIndex {n : Nat} {act : DescIdx → Action} (h : ∀ d, KeepsPending (act d)) :
    KeepsPending (withIndex n act) := fun s => by
  unfold withIndex
  split
  · exact h _ s
  · rfl

theorem keepsPending_withMonitor {n : Nat} {act : Fin 16 → Action} (h : ∀ m, KeepsPending (act m)) :
    KeepsPending (withMonitor n act) := fun s => by
  unfold withMonitor
  split
  · exact h _ s
  · rfl

/-- STAGE is refused, or writes one record (R15). -/
theorem keepsPending_stageAct : KeepsPending stageAct := fun s => by
  refine keepsPending_withIndex (fun d s => ?_) s
  split
  · rfl
  · split
    · rfl
    · split <;> rfl

/-- ACTIVATE is refused, or writes one record (R16, R17). -/
theorem keepsPending_activateAct : KeepsPending activateAct := fun s => by
  refine keepsPending_withIndex (fun d s => ?_) s
  split <;> rfl

theorem keepsPending_modifyAct : KeepsPending modifyAct := fun s => by
  refine keepsPending_withIndex (fun d s => ?_) s
  split
  · rfl
  · split
    · rfl
    · split
      · rfl
      · split
        · rfl
        · exact (SameSurround.trans (surround_modDesc d _) (surround_startSwitch d)).pending

theorem keepsPending_retireAct : KeepsPending retireAct := fun s => by
  refine keepsPending_withIndex (fun d s => ?_) s
  have hwithdrawn : (withdraw d (finishMonitorsOn d s)).pending = s.pending :=
    ((surround_finishAll _).trans surround_withdraw).pending
  split
  · rfl
  · split
    · rfl
    · rfl
    · rfl
    · exact hwithdrawn
    · exact hwithdrawn

theorem keepsPending_readDescriptorAct : KeepsPending readDescriptorAct := fun s =>
  keepsPending_withIndex (fun _ _ => rfl) s

/-- PROBE reports and takes nothing (R46). -/
theorem keepsPending_probeAct : KeepsPending probeAct := fun s => by
  unfold probeAct
  dsimp only
  split
  · rfl
  · split
    · split <;> rfl
    · rfl

theorem keepsPending_queueMigrationAct : KeepsPending queueMigrationAct := fun s => by
  unfold queueMigrationAct
  split
  · rfl
  · split
    · split
      · rfl
      · exact (surround_enqueueAtOnce _ _ _).pending
    · rfl

theorem keepsPending_cancelJobAct : KeepsPending cancelJobAct := fun s => by
  unfold cancelJobAct
  dsimp only
  split
  · rfl
  · split
    · exact endQueued_pending ..
    · split
      · rfl
      · split
        · rfl
        · exact endActive_pending ..

theorem keepsPending_queryJobAct : KeepsPending queryJobAct := fun s => by
  unfold queryJobAct
  dsimp only
  split
  · rfl
  · split
    · rfl
    · split <;> rfl

theorem keepsPending_haltEngineAct : KeepsPending haltEngineAct := fun s => by
  unfold haltEngineAct
  split <;> rfl

theorem keepsPending_resumeEngineAct : KeepsPending resumeEngineAct := fun s => by
  unfold resumeEngineAct
  split
  · exact surround_resumeEngine.pending
  · rfl

theorem keepsPending_setMonitorAct : KeepsPending setMonitorAct := fun s => by
  refine keepsPending_withMonitor (fun m s => ?_) s
  split
  · rfl
  · split
    · split
      · rfl
      · split <;> rfl
    · rfl

theorem keepsPending_stopMonitorAct : KeepsPending stopMonitorAct := fun s => by
  refine keepsPending_withMonitor (fun m s => ?_) s
  split
  · rfl
  · exact (surround_finishAsks m).pending

theorem keepsPending_readMonitorAct : KeepsPending readMonitorAct := fun s =>
  keepsPending_withMonitor (fun _ _ => rfl) s

theorem keepsPending_restoreTargetAct : KeepsPending restoreTargetAct := fun s => by
  unfold restoreTargetAct
  split
  · split <;> rfl
  · rfl

theorem keepsPending_restartAct : KeepsPending restartAct := fun s =>
  ((surround_finishAll (s := s) fun _ => true).trans surround_restartEngine).pending

/-- No owner of a command code touches the queue (R173). -/
theorem keepsPending_actionOf (code : BitVec 8) : KeepsPending (actionOf code) := by
  unfold actionOf
  split
  · exact keepsPending_stageAct
  · exact keepsPending_activateAct
  · exact keepsPending_modifyAct
  · exact keepsPending_retireAct
  · exact keepsPending_readDescriptorAct
  · exact keepsPending_probeAct
  · exact keepsPending_queueMigrationAct
  · exact keepsPending_cancelJobAct
  · exact keepsPending_queryJobAct
  · exact keepsPending_haltEngineAct
  · exact keepsPending_resumeEngineAct
  · exact keepsPending_setMonitorAct
  · exact keepsPending_stopMonitorAct
  · exact keepsPending_readMonitorAct
  · exact keepsPending_restoreTargetAct
  · exact keepsPending_restartAct
  · exact fun _ => rfl

/-- A write of the window stores a word, or is the COMMAND write of an owner (R168). -/
theorem writeWindow_pending (w : WindowWord) (v : Word) : (writeWindow w v s).pending = s.pending := by
  cases w with
  | command => exact writeCommand_pending (keepsPending_actionOf _)
  | ident | status | param | result | eventPending | eventRoute | budget | retry | tgtTimeout | unnamed => rfl

/-! ## Every command -/

/-- Every arm of `exec` goes on. -/
theorem exec_next (c : Instr) (s : State) : ∃ t, exec c s = .next t := by
  cases c <;> exact ⟨_, rfl⟩

/-- The rows that write no command leave the queue alone. -/
theorem exec_pending_of_noCommand {c : Instr} (hcode : commandCode c = none) (h : exec c s = .next t) :
    t.pending = s.pending := by
  cases c <;> cases hcode <;> cases h
  case irstNAssert i => exact (surround_assertIrst i).pending
  case acceptRequest i r => exact (butArrivals_acceptRequest i r).pending
  case reResolution i => exact (butArrivals_reResolve i).pending
  case responseTaken i => exact (surround_takeResponse i).pending
  case arbiterGrant p => exact (window_grant p).pending
  case targetResponse p n code d => exact (window_targetAnswers p n code d).pending
  case responseTimerExpiry p => exact (window_expireTimer p).pending
  case restoreEnd p => exact endRestore_pending p
  case lineBegin => exact beginLine_pending s
  case jobActivate => exact activateJob_pending s
  case jobStart => exact beginJob_pending s
  case registerWrite off v => exact writeWindow_pending _ v
  case goIdle m =>
    split
    · exact (surround_finishAsks (s := { s with arrivals := s.arrivals.erase _ }) m).pending
    · rfl
  all_goals rfl

/-- No command touches the queue of waiting commands. -/
theorem exec_pending (c : Instr) (h : exec c s = .next t) : t.pending = s.pending := by
  cases hcode : commandCode c with
  | none => exact exec_pending_of_noCommand hcode h
  | some code =>
    rw [exec_commandCode hcode] at h
    cases h
    exact writeCommand_pending (keepsPending_actionOf code)

/-- A step goes on, with a command at the front of the queue or none. -/
theorem safe_of_state (s : State) : Safe s := by
  cases hq : s.pending with
  | nil => exact ⟨partStep s, step_empty hq⟩
  | cons c rest =>
    obtain ⟨t, h⟩ := exec_next c { s with pending := rest }
    exact ⟨t, (step_front hq).trans h⟩

/-- Settles O3. -/
theorem everyStepGoesOn : Obligations.EveryStepGoesOn := ⟨safe_of_state, fun c _ _ => exec_pending c⟩

end Sys2Proof.Machine
end
